-- ==== Sys2Proof/Word.lean ====
section
/-! DEFINITION. The word types of the block: bytes, the 32-bit frequency and the 47-bit input word
(00_scope.md R6 and R9, 30_encoding.md R74). Every value is unsigned (R9, 40_codec.md R101). -/

namespace Sys2Proof

/-- A byte: a wire byte, an address, a command code or a mode (R6). -/
abbrev Byte := BitVec 8

/-- A frequency: "32 bits, unsigned" (R6). -/
abbrev Freq := BitVec 32

/-- The input word `IN` that each step samples (30_encoding.md R74). -/
abbrev InputWord := BitVec 47

end Sys2Proof
end

