-- ==== Sys2Proof/Config.lean ====
section
/-! DEFINITION. What an implementation fixes: the constants of 00_scope.md R6, the status codes of
10_state.md R27 and R33, and the record of the non-fixed parameters, which "a model takes … as an
argument of its configuration" (R6). The model has no free value: the spec leaves no result open. -/

namespace Sys2Proof

/-- `PREAMBLE`, fixed (R6). -/
def preamble : Byte := 0xFE
/-- `TERMINATOR`, fixed (R6). -/
def terminator : Byte := 0xFD
/-- `STATUS_OK`, fixed (R6). -/
def statusOk : Byte := 0xFB
/-- `STATUS_NG`, fixed (R6). -/
def statusNg : Byte := 0xFA
/-- `STATUS_COLLISION`, fixed (R6). -/
def statusCollision : Byte := 0xFC
/-- `OWN_ADDR`, fixed (R6, 90_conflicts.md C3). -/
def ownAddr : Byte := 0xE0
/-- The transmit frame capacity, the number of cells of `txbuf` (R6, 10_state.md R29). -/
def txCapacity : Nat := 11
/-- The least `MAX_LEN` of R7(a). -/
def leastMaxLen : Nat := 11

/-- `disp_status` 0, NONE (R27). -/
def dispNone : BitVec 3 := 0
/-- `disp_status` 1, OK_FREQ (R27). -/
def dispOkFreq : BitVec 3 := 1
/-- `disp_status` 2, OK_MODE (R27). -/
def dispOkMode : BitVec 3 := 2
/-- `disp_status` 3, FRAMING_ERR (R27). -/
def dispFramingErr : BitVec 3 := 3
/-- `disp_status` 4, ECHO_SKIPPED (R27). -/
def dispEchoSkipped : BitVec 3 := 4
/-- `disp_status` 5, UNRECOGNIZED (R27). -/
def dispUnrecognized : BitVec 3 := 5

/-- `tx_status` 0, NONE (R33). -/
def txNone : BitVec 2 := 0
/-- `tx_status` 1, DONE_OK (R33). -/
def txDoneOk : BitVec 2 := 1
/-- `tx_status` 2, WRITE_FAIL (R33). -/
def txWriteFail : BitVec 2 := 2

/-- The non-fixed parameters of R6, constant for one elaboration of the block (R8). -/
structure Config where
  /-- `RIG_ADDR` (D7). -/
  rigAddr : Byte
  /-- `ECHO_ADDR`, the echo detector's comparand (D3, 90_conflicts.md C1). -/
  echoAddr : Byte
  /-- `MAX_LEN`, the number of cells of the receive buffer (D4). -/
  maxLen : Nat
  /-- `FREQ_SENTINEL` (D5). -/
  freqSentinel : Freq
  /-- `MODE_SENTINEL` (D6). -/
  modeSentinel : Byte
  /-- `CMD_TRANSFER_FREQ` (D8). -/
  cmdTransferFreq : Byte
  /-- `CMD_TRANSFER_MODE` (D8). -/
  cmdTransferMode : Byte
  /-- `CMD_GET_FREQ` (D8). -/
  cmdGetFreq : Byte
  /-- `CMD_GET_MODE` (D8). -/
  cmdGetMode : Byte
  /-- `CMD_SET_FREQ` (D8). -/
  cmdSetFreq : Byte
  /-- `CMD_SET_MODE` (D8). -/
  cmdSetMode : Byte
deriving DecidableEq, Repr

/-- The reference values of R6, with `ECHO_ADDR` at its default `RIG_ADDR`.
DESIGN CHOICE (log 2): the configuration `State.reset` holds. -/
def Config.reference : Config where
  rigAddr := 0x58
  echoAddr := 0x58
  maxLen := 16
  freqSentinel := 0xFFFFFFFF
  modeSentinel := 0xFF
  cmdTransferFreq := 0x00
  cmdTransferMode := 0x01
  cmdGetFreq := 0x03
  cmdGetMode := 0x04
  cmdSetFreq := 0x05
  cmdSetMode := 0x06

/-- The six command codes, in the order of R6. -/
def Config.codes (cfg : Config) : List Byte :=
  [cfg.cmdTransferFreq, cfg.cmdTransferMode, cfg.cmdGetFreq, cfg.cmdGetMode, cfg.cmdSetFreq,
    cfg.cmdSetMode]

end Sys2Proof
end

