-- ==== Sys2Proof/Machine/Codec.lean ====
section
/-! DEFINITION. The BCD frequency codec (40_codec.md): two pure functions, used by DISPATCH and by ISSUE
WRITE_FREQ. Both are driven by explicit index tables, as R99 asks. -/

namespace Sys2Proof.Machine

/-- The five bytes of a frequency payload, `p0` first on the wire (30_encoding.md R70, 20_memory.md R55). -/
structure Payload where
  /-- Frame index 5. -/
  p0 : Byte
  /-- Frame index 6. -/
  p1 : Byte
  /-- Frame index 7. -/
  p2 : Byte
  /-- Frame index 8. -/
  p3 : Byte
  /-- Frame index 9. -/
  p4 : Byte
deriving DecidableEq, Repr

/-- `b[7:4]` (00_scope.md R9). -/
def highNibble (b : Byte) : BitVec 4 := b.extractLsb' 4 4

/-- `b[3:0]` (00_scope.md R9). -/
def lowNibble (b : Byte) : BitVec 4 := b.extractLsb' 0 4

/-- The payload byte at frame index `n`, for `n` from 5 to 9 (R70); the read order names no other index. -/
def Payload.atFrameIndex (p : Payload) : Nat → Byte
  | 5 => p.p0
  | 6 => p.p1
  | 7 => p.p2
  | 8 => p.p3
  | 9 => p.p4
  | _ => 0

/-- The nibble at a source position (R91): two positions per byte from frame byte 4, the even one high. -/
def Payload.nibble (p : Payload) (position : Nat) : BitVec 4 :=
  if position % 2 = 0 then highNibble (p.atFrameIndex (4 + position / 2))
  else lowNibble (p.atFrameIndex (4 + position / 2))

/-- The source positions in read order: "the fixed permutation {10,11,8,9,6,7,4,5,2,3}" (R91). -/
def readOrder : List Nat := [10, 11, 8, 9, 6, 7, 4, 5, 2, 3]

/-- One step of the accumulation, modulo 2^32 (R90, R92). -/
def accumulate (f : Freq) (n : BitVec 4) : Freq := 10 * f + n.zeroExtend 32

/-- `DEC(p0, p1, p2, p3, p4)` (R90). Nibbles are not checked (R93). -/
def dec (p : Payload) : Freq := readOrder.foldl (fun f position => accumulate f (p.nibble position)) 0

/-- `d[i]`, digit `i` of the 10-digit decimal string of `f`; `d[0]` is the most significant (R94). -/
def digit (f : Freq) (i : Nat) : Nat := f.toNat / 10 ^ (9 - i) % 10

/-- `d[i][3:0]` (R94). -/
def digitNibble (f : Freq) (i : Nat) : BitVec 4 := BitVec.ofNat 4 (digit f i)

/-- `p[k]`: "first digit of the pair -> high nibble" (R94). -/
def encByte (f : Freq) (k : Nat) : Byte := digitNibble f (8 - 2 * k) ++ digitNibble f (9 - 2 * k)

/-- `ENC(f)` (R94). -/
def enc (f : Freq) : Payload := ⟨encByte f 0, encByte f 1, encByte f 2, encByte f 3, encByte f 4⟩

end Sys2Proof.Machine
end

