-- ==== Sys2Proof/Syntax.lean ====
section
/-! DEFINITION. The operations of the block, one constructor per row of opcode_table.json (R80): the ten
operations selected by the input word and the state, and the ten command classes inside DISPATCH. -/

namespace Sys2Proof

/-- One operation of the block. The operand of an ISSUE is the whole `cmd_arg` of the input word: the
label `ISSUE(op, arg)` of 43_builders.md R140 carries it (log 6). -/
inductive Instr where
  /-- RESET (R185). -/
  | reset
  /-- DISPATCH (R121). -/
  | dispatch
  /-- RX_BYTE of the byte `b = rx_data` (R106). -/
  | rxByte (b : Byte)
  /-- TX_BYTE with the verdict `ok = tx_ok` (R147). -/
  | txByte (ok : Bool)
  /-- ISSUE REQ_FREQ (R142). -/
  | issueReqFreq (arg : BitVec 32)
  /-- ISSUE REQ_MODE (R143). -/
  | issueReqMode (arg : BitVec 32)
  /-- ISSUE WRITE_FREQ (R144). -/
  | issueWriteFreq (arg : BitVec 32)
  /-- ISSUE WRITE_MODE (R145). -/
  | issueWriteMode (arg : BitVec 32)
  /-- IDLE while a send waits for the transport (R155). -/
  | idleTxwait
  /-- IDLE with nothing offered (R155). -/
  | idle
  /-- The frequency branch on `CMD_TRANSFER_FREQ` (R129). -/
  | dispatchTransferFreq
  /-- The frequency branch on `CMD_GET_FREQ` (R129). -/
  | dispatchGetFreq
  /-- The mode branch on `CMD_TRANSFER_MODE` (R130). -/
  | dispatchTransferMode
  /-- The mode branch on `CMD_GET_MODE` (R130). -/
  | dispatchGetMode
  /-- An inbound `CMD_SET_FREQ`, unrecognized (R131). -/
  | dispatchSetFreq
  /-- An inbound `CMD_SET_MODE`, unrecognized (R131). -/
  | dispatchSetMode
  /-- A status frame `STATUS_OK`, unrecognized (R72, R131). -/
  | dispatchStatusOk
  /-- A status frame `STATUS_NG`, unrecognized (R72, R131). -/
  | dispatchStatusNg
  /-- A status frame `STATUS_COLLISION`, unrecognized (R72, R131). -/
  | dispatchStatusCollision
  /-- Any other command byte, unrecognized (R131). -/
  | dispatchOther (cmd : Byte)
deriving DecidableEq, Repr

/-- The row's name in opcode_table.json. -/
def Instr.mnemonic : Instr → String
  | .reset => "RESET"
  | .dispatch => "DISPATCH"
  | .rxByte _ => "RX_BYTE"
  | .txByte _ => "TX_BYTE"
  | .issueReqFreq _ => "ISSUE_REQ_FREQ"
  | .issueReqMode _ => "ISSUE_REQ_MODE"
  | .issueWriteFreq _ => "ISSUE_WRITE_FREQ"
  | .issueWriteMode _ => "ISSUE_WRITE_MODE"
  | .idleTxwait => "IDLE.TXWAIT"
  | .idle => "IDLE"
  | .dispatchTransferFreq => "DISPATCH.TRANSFER_FREQ"
  | .dispatchGetFreq => "DISPATCH.GET_FREQ"
  | .dispatchTransferMode => "DISPATCH.TRANSFER_MODE"
  | .dispatchGetMode => "DISPATCH.GET_MODE"
  | .dispatchSetFreq => "DISPATCH.SET_FREQ"
  | .dispatchSetMode => "DISPATCH.SET_MODE"
  | .dispatchStatusOk => "DISPATCH.STATUS_OK"
  | .dispatchStatusNg => "DISPATCH.STATUS_NG"
  | .dispatchStatusCollision => "DISPATCH.STATUS_COLLISION"
  | .dispatchOther _ => "DISPATCH.OTHER"

end Sys2Proof
end

