-- ==== Sys2Proof/Machine/State.lean ====
section
/-! DEFINITION. The state of one instance of the block (10_state.md R20), the reasons a step can stop, the
state after reset (R40), and one named update per group of fields that an operation writes together. -/

namespace Sys2Proof.Machine

/-- A storage array (20_memory.md R50): its cells that do not hold 0x00, as (index, byte) pairs with
strictly rising indices (log 11). -/
abbrev Memory := List Host.Cell

/-- A host command (30_encoding.md R74). -/
inductive CmdOp where
  /-- `cmd_op = 00`. -/
  | reqFreq
  /-- `cmd_op = 01`. -/
  | reqMode
  /-- `cmd_op = 10`. -/
  | writeFreq
  /-- `cmd_op = 11`. -/
  | writeMode
deriving DecidableEq, Repr

/-- The outcome of a DISPATCH (42_dispatcher.md R121, 10_state.md R27). -/
inductive DispOutcome where
  /-- A frequency frame was decoded and stored. -/
  | okFreq
  /-- A mode frame was stored. -/
  | okMode
  /-- Bad preamble, terminator or source address, or an empty frame. -/
  | framingErr
  /-- The frame is an echo and was discarded. -/
  | echoSkipped
  /-- A valid frame whose command is not dispatched. -/
  | unrecognized
deriving DecidableEq, Repr

/-- The label of a step, "the observation a model records" (00_scope.md R12). -/
inductive Label where
  /-- `RESET`. -/
  | reset
  /-- `IDLE`. -/
  | idle
  /-- `RX(b, ret, lenerr)`. -/
  | rx (b : Byte) (ret lenerr : Bool)
  /-- `DISPATCH(outcome, ret)`. -/
  | dispatch (outcome : DispOutcome) (ret : Bool)
  /-- `ISSUE(op, arg)`. -/
  | issue (op : CmdOp) (arg : BitVec 32)
  /-- `TX(b, ok, done)`. -/
  | tx (b : Byte) (ok done : Bool)
deriving DecidableEq, Repr

/-- The state `S` of R20. `cfg`, `inputs` and `label` are the model's own fields (logs 1, 3 and 5): the
argument, the input and the observation of a step, which the spec does not call state. -/
structure State where
  /-- The configuration, never written by a step (00_scope.md R6 and R8; log 1). -/
  cfg : Config
  /-- The input words the environment offers at the coming steps, the next one first (R155; logs 3, 4). -/
  inputs : List InputWord
  /-- `buf`, the receive buffer of `MAX_LEN` byte cells (R21). -/
  buf : Memory
  /-- `length`, the receive-length counter (R22; log 19). -/
  length : Nat
  /-- `pcount`, the preamble counter; 3 is unreachable (R23, I16). -/
  pcount : BitVec 2
  /-- `complete`, the completion flag (R24). -/
  complete : Bool
  /-- `freq`, the stored frequency (R25). -/
  freq : Freq
  /-- `mode`, the stored mode (R26). -/
  mode : Byte
  /-- `disp_status`, the outcome of the most recent DISPATCH; 6 and 7 are reserved (R27, I15). -/
  dispStatus : BitVec 3
  /-- `rx_lenerr`, the length-error report (R28). -/
  rxLenErr : Bool
  /-- `txbuf`, the transmit shadow of 11 byte cells (R29). -/
  txbuf : Memory
  /-- `txlen`, the length of the frame in the shadow (R30; log 19). -/
  txlen : Nat
  /-- `txidx`, the index of the next byte to transmit (R31; log 19). -/
  txidx : Nat
  /-- `txbusy`, 1 while a frame is being sent (R32). -/
  txbusy : Bool
  /-- `tx_status`, the result of the most recent send; 3 is reserved (R33, I15). -/
  txStatus : BitVec 2
  /-- The label of the last step (00_scope.md R12; log 5). -/
  label : Label
deriving DecidableEq, Repr

/-- Why the machine stops with an error: it found a state that the spec calls unreachable
(93_implementation_defined.md I15 and I16: "fault"; logs 9 and 10). -/
inductive Fault where
  /-- `pcount = 3` (I16). Raised by every operation but RESET. Safe: the machine stops, no state follows. -/
  | reservedPcount
  /-- `disp_status` is 6 or 7 (I15). Raised by every operation but RESET. Safe. -/
  | reservedDispStatus
  /-- `tx_status = 3` (I15). Raised by every operation but RESET. Safe. -/
  | reservedTxStatus
  /-- `length > MAX_LEN`, outside its range of R20. Raised by every operation but RESET. Safe. -/
  | lengthOutOfRange
  /-- `txlen > 11`, outside its range of R20. Raised by every operation but RESET. Safe. -/
  | txlenOutOfRange
  /-- `txidx > 11`, outside its range of R20. Raised by every operation but RESET. Safe. -/
  | txidxOutOfRange
  /-- TX_BYTE reads `txbuf[11]`, a cell that does not exist (R50). Raised by TX_BYTE alone. Safe. -/
  | txbufIndexOutside
deriving DecidableEq, Repr

/-- Why an operation has no meaning where it was asked for. -/
inductive Refusal where
  /-- An operation without a meaning in this model. Raised by no arm of `exec`. Safe. -/
  | notModelled (mnemonic : String)
  /-- The configuration breaks 00_scope.md R7: "A model refuses a configuration that breaks one" (log 8).
  Raised by every operation. Safe. -/
  | badConfiguration
  /-- The state column of the operation's row does not hold (45_scheduler.md R155; 30_encoding.md R78: "A
  checker rejects a program that is not well-formed"; logs 7 and 20). Raised by every operation but RESET, never by `step`. Safe. -/
  | notEnabled
deriving DecidableEq, Repr

/-- The three outcomes of one operation on this machine. -/
abbrev Result := Host.Outcome State Fault Refusal

/-- The state after RESET (R40) under a configuration, with the words the environment will offer. -/
def State.resetOf (cfg : Config) (inputs : List InputWord) : State where
  cfg := cfg
  inputs := inputs
  buf := []
  length := 0
  pcount := 0
  complete := false
  freq := cfg.freqSentinel
  mode := cfg.modeSentinel
  dispStatus := dispNone
  rxLenErr := false
  txbuf := []
  txlen := 0
  txidx := 0
  txbusy := false
  txStatus := txNone
  label := .reset

/-- The machine right after reset (R40), under the reference configuration (log 2) and with no input word
waiting (log 4). -/
def State.reset : State := State.resetOf Config.reference []

/-- The words the environment will offer (log 3). -/
def State.setInputs (s : State) (ws : List InputWord) : State :=
  { s with inputs := ws }

/-- The receive buffer (R21). -/
def State.setBuf (s : State) (m : Memory) : State :=
  { s with buf := m }

/-- The receiver's counters and completion flag (R22 to R24). -/
def State.setReceiver (s : State) (n : Nat) (p : BitVec 2) (c : Bool) : State :=
  { s with length := n, pcount := p, complete := c }

/-- The stored frequency (R25). -/
def State.setFreq (s : State) (f : Freq) : State :=
  { s with freq := f }

/-- The stored mode (R26). -/
def State.setMode (s : State) (m : Byte) : State :=
  { s with mode := m }

/-- The dispatcher's status register (R27). -/
def State.setDispStatus (s : State) (v : BitVec 3) : State :=
  { s with dispStatus := v }

/-- The length-error report (R28). -/
def State.setRxLenErr (s : State) (e : Bool) : State :=
  { s with rxLenErr := e }

/-- The transmit shadow (R29). -/
def State.setTxbuf (s : State) (m : Memory) : State :=
  { s with txbuf := m }

/-- The transmitter's length, index and busy flag (R30 to R32). -/
def State.setSend (s : State) (n : Nat) (i : Nat) (b : Bool) : State :=
  { s with txlen := n, txidx := i, txbusy := b }

/-- The transmitter's status register (R33). -/
def State.setTxStatus (s : State) (v : BitVec 2) : State :=
  { s with txStatus := v }

/-- The label of the step (00_scope.md R12). -/
def State.setLabel (s : State) (l : Label) : State :=
  { s with label := l }

end Sys2Proof.Machine
end

