-- ==== Sys2Proof/Machine/Operands.lean ====
section
/-! DEFINITION. Every operand form of the block: one cell of a storage array (20_memory.md R53, R57), the
fields of a received frame at their fixed indices (R60), and the operands taken from `cmd_arg`
(30_encoding.md R75). -/

namespace Sys2Proof.Machine

/-- What a cell not listed reads as: the reset contents 0x00 (R40, R53; log 11). -/
def unlistedByte : Byte := 0x00

/-- The read of one cell (R53). -/
def Memory.read : Memory → Nat → Byte
  | [], _ => unlistedByte
  | (k, v) :: m, i => if k = i then v else Memory.read m i

/-- `frame(i)`: "`S.buf[i]`, … whatever `S.length` is" (00_scope.md R11). -/
def frame (s : State) (i : Nat) : Byte := s.buf.read i

/-- The destination address field (R60, R65). -/
def frameDst (s : State) : Byte := frame s 2

/-- The source address field (R60, R65). -/
def frameSrc (s : State) : Byte := frame s 3

/-- The command byte (R60, R69). -/
def frameCmd (s : State) : Byte := frame s 4

/-- The frequency payload, frame indices 5 to 9 whatever the frame's length (R70, 42_dispatcher.md R134). -/
def framePayload (s : State) : Payload := ⟨frame s 5, frame s 6, frame s 7, frame s 8, frame s 9⟩

/-- The mode payload, frame index 5 (R71). -/
def frameMode (s : State) : Byte := frame s 5

/-- The frequency operand of WRITE_FREQ: `cmd_arg[31:0]` (R75). -/
def freqOperand (arg : BitVec 32) : Freq := arg

/-- The mode operand of WRITE_MODE: `cmd_arg[7:0]` (R75). -/
def modeOperand (arg : BitVec 32) : Byte := arg.extractLsb' 0 8

end Sys2Proof.Machine
end

