-- ==== Sys2Proof/Machine/Flags.lean ====
section
/-! DEFINITION. Every condition an operation tests and every status code it records: DISPATCH's checks
(42_dispatcher.md R123 to R128), the echo detector (R126), and the event table (60_exceptions.md R171). -/

namespace Sys2Proof.Machine

/-- The structural check of R123 and R124: a last byte exists, both preamble bytes and the terminator
are in place. -/
def structureOk (s : State) : Bool :=
  s.length != 0 && frame s 0 == preamble && frame s 1 == preamble &&
    frame s (s.length - 1) == terminator

/-- The echo detector: `frame(2) = ECHO_ADDR`, an 8-bit equality comparator (R126). -/
def isEcho (s : State) : Bool := frameDst s == s.cfg.echoAddr

/-- The source address check (R128). -/
def fromRig (s : State) : Bool := frameSrc s == s.cfg.rigAddr

/-- "the structural, echo and source checks pass" (opcode_table.json, R121). -/
def frameAccepted (s : State) : Bool := structureOk s && !isEcho s && fromRig s

/-- The code of an outcome in `disp_status` (R27). -/
def DispOutcome.code : DispOutcome → BitVec 3
  | .okFreq => dispOkFreq
  | .okMode => dispOkMode
  | .framingErr => dispFramingErr
  | .echoSkipped => dispEchoSkipped
  | .unrecognized => dispUnrecognized

/-- The dispatcher's return value: true exactly for OK_FREQ and OK_MODE (R133). -/
def DispOutcome.returns : DispOutcome → Bool
  | .okFreq => true
  | .okMode => true
  | .framingErr => false
  | .echoSkipped => false
  | .unrecognized => false

/-- The rows of the event table (60_exceptions.md R171). -/
inductive Event where
  /-- Framing error, by DISPATCH (R172). -/
  | framingError
  /-- Echo-skipped, by DISPATCH (R173). -/
  | echoSkipped
  /-- Unrecognized command, by DISPATCH (R175). -/
  | unrecognizedCommand
  /-- Length overflow, by RX_BYTE (R174). -/
  | lengthOverflow
  /-- Write failure, by TX_BYTE (R176). -/
  | writeFailure
  /-- Success, frequency, by DISPATCH (R129). -/
  | frequencyStored
  /-- Success, mode, by DISPATCH (R130). -/
  | modeStored
  /-- Success, send, by TX_BYTE (R149). -/
  | sendDone
deriving DecidableEq, Repr

/-- The event that reports an outcome of DISPATCH (R171). -/
def DispOutcome.event : DispOutcome → Event
  | .okFreq => .frequencyStored
  | .okMode => .modeStored
  | .framingErr => .framingError
  | .echoSkipped => .echoSkipped
  | .unrecognized => .unrecognizedCommand

end Sys2Proof.Machine
end

