-- ==== Sys2Proof/WellFormed.lean ====
section
/-! DEFINITION. What a legal configuration is (00_scope.md R7), and which terms of `Instr` are well formed:
every operand of its width is legal (30_encoding.md R76), but DISPATCH.OTHER stands only for a command byte
that no other row of the table matches (R80). -/

namespace Sys2Proof

/-- R7(a): `MAX_LEN ≥ 11`. -/
def Config.lengthFits (cfg : Config) : Bool := decide (leastMaxLen ≤ cfg.maxLen)

/-- R7(b): "the six command codes are pairwise distinct". -/
def Config.codesDistinct (cfg : Config) : Bool := decide cfg.codes.Nodup

/-- The fixed byte values no command code may take (R7(c)). -/
def reservedBytes : List Byte := [preamble, terminator, statusOk, statusNg, statusCollision]

/-- R7(c): no command code is one of the fixed byte values. -/
def Config.codesOrdinary (cfg : Config) : Bool :=
  cfg.codes.all fun c => !reservedBytes.contains c

/-- R7(d): `ECHO_ADDR ∈ {RIG_ADDR, OWN_ADDR}`. -/
def Config.echoIsAnAddress (cfg : Config) : Bool :=
  cfg.echoAddr == cfg.rigAddr || cfg.echoAddr == ownAddr

/-- R7(e): `RIG_ADDR ≠ OWN_ADDR`. -/
def Config.addressesDiffer (cfg : Config) : Bool := cfg.rigAddr != ownAddr

/-- The configuration satisfies R7. "A model refuses a configuration that breaks one." -/
def Config.valid (cfg : Config) : Bool :=
  cfg.lengthFits && cfg.codesDistinct && cfg.codesOrdinary && cfg.echoIsAnAddress &&
    cfg.addressesDiffer

/-- The command bytes that a named row of the table matches: the six codes and the status codes (R69). -/
def Config.namedCommands (cfg : Config) : List Byte :=
  cfg.codes ++ [statusOk, statusNg, statusCollision]

/-- An instruction is well formed when it is the row's own reading of its words. -/
def Instr.wellFormed (cfg : Config) : Instr → Bool
  | .dispatchOther cmd => !cfg.namedCommands.contains cmd
  | .reset | .dispatch | .rxByte _ | .txByte _ | .issueReqFreq _ | .issueReqMode _
  | .issueWriteFreq _ | .issueWriteMode _ | .idleTxwait | .idle | .dispatchTransferFreq
  | .dispatchGetFreq | .dispatchTransferMode | .dispatchGetMode | .dispatchSetFreq
  | .dispatchSetMode | .dispatchStatusOk | .dispatchStatusNg | .dispatchStatusCollision => true

end Sys2Proof
end

