-- ==== Sys2Proof/Machine/Ops.lean ====
section
/-! DEFINITION. The named operations the meanings share: writes of the storage arrays, recording an event
(the block's whole exception model: it has no trap entry and no trap return, 60_exceptions.md R170 and
R179), and the conditions under which an operation is performed at all. -/

namespace Sys2Proof.Machine

/-! ### Storage -/

/-- The write of one cell, keeping the canonical form (log 11). -/
def Memory.write : Memory → Nat → Byte → Memory
  | [], i, v => if v = unlistedByte then [] else [(i, v)]
  | (k, u) :: m, i, v =>
    if i < k then (if v = unlistedByte then (k, u) :: m else (i, v) :: (k, u) :: m)
    else if i = k then (if v = unlistedByte then m else (i, v) :: m)
    else (k, u) :: Memory.write m i v

/-- The writes of consecutive cells from index `i` on, in order. -/
def Memory.writeFrom (m : Memory) (i : Nat) : List Byte → Memory
  | [] => m
  | b :: bs => Memory.writeFrom (m.write i b) (i + 1) bs

/-- The canonical form of an array of `size` cells: strictly rising indices below `size`, and no entry
equal to what an unlisted cell reads as. -/
abbrev Memory.wf (size : Nat) (m : Memory) : Prop :=
  m.Pairwise (fun c d => c.1 < d.1) ∧ ∀ c ∈ m, c.1 < size ∧ c.2 ≠ unlistedByte

/-! ### Events -/

/-- `raise E(info)`: "records the event `E` in the status register of its unit" (00_scope.md R10); the codes
are those of R171. It changes no control flow and saves nothing (R170). -/
def raise (e : Event) (s : State) : State :=
  match e with
  | .framingError => s.setDispStatus dispFramingErr
  | .echoSkipped => s.setDispStatus dispEchoSkipped
  | .unrecognizedCommand => s.setDispStatus dispUnrecognized
  | .lengthOverflow => s.setRxLenErr true
  | .writeFailure => s.setTxStatus txWriteFail
  | .frequencyStored => s.setDispStatus dispOkFreq
  | .modeStored => s.setDispStatus dispOkMode
  | .sendDone => s.setTxStatus txDoneOk

/-! ### When an operation is performed -/

/-- The first reason for which the spec calls the state unreachable: a reserved code (I15, I16) or a count
outside its range of R20. The order, which decides the fault's name where several hold, is the model's (log
9). -/
def illegal (s : State) : Option Fault :=
  if s.pcount = 3 then some .reservedPcount
  else if dispUnrecognized < s.dispStatus then some .reservedDispStatus
  else if s.txStatus = 3 then some .reservedTxStatus
  else if s.cfg.maxLen < s.length then some .lengthOutOfRange
  else if txCapacity < s.txlen then some .txlenOutOfRange
  else if txCapacity < s.txidx then some .txidxOutOfRange
  else none

/-- Perform an operation with outcome `k` in state `s`: only under a legal configuration (R7), in a legal
state (I15, I16), and where the operation is enabled (R78, R155). -/
def perform (enabled : Bool) (s : State) (k : Result) : Result :=
  if s.cfg.valid then
    match illegal s with
    | some f => .fault f
    | none => if enabled then k else .refused .notEnabled
  else .refused .badConfiguration

end Sys2Proof.Machine
end

