-- ==== Sys2Proof/Machine/Builders.lean ====
section
/-! DEFINITION. The command builders: the four ISSUE operations (43_builders.md R140 to R145). -/

namespace Sys2Proof.Machine

/-- A frame with the outbound header (R141, 30_encoding.md R66). -/
def outboundFrame (cfg : Config) (cmd : Byte) (payload : List Byte) : List Byte :=
  [preamble, preamble, cfg.rigAddr, ownAddr, cmd] ++ payload ++ [terminator]

/-- The payload bytes of `ENC(f)` in wire order (R141). -/
def freqPayload (f : Freq) : List Byte := [(enc f).p0, (enc f).p1, (enc f).p2, (enc f).p3, (enc f).p4]

/-- `BuildFrame(op, arg)` (R141). -/
def buildFrame (cfg : Config) (op : CmdOp) (arg : BitVec 32) : List Byte :=
  match op with
  | .reqFreq => outboundFrame cfg cfg.cmdGetFreq []
  | .reqMode => outboundFrame cfg cfg.cmdGetMode []
  | .writeFreq => outboundFrame cfg cfg.cmdSetFreq (freqPayload (freqOperand arg))
  | .writeMode => outboundFrame cfg cfg.cmdSetMode [modeOperand arg]

/-- The part common to the four commands (R140): the frame goes into the shadow, whose cells at and above
the new `txlen` keep their values, and the send starts. -/
def startSend (f : List Byte) (s : State) : State :=
  ((s.setTxbuf (s.txbuf.writeFrom 0 f)).setSend f.length 0 true).setTxStatus txNone

/-- `ISSUE(op, arg)` but for the invalidation (R140). -/
def issue (op : CmdOp) (arg : BitVec 32) (s : State) : State :=
  (startSend (buildFrame s.cfg op arg) s).setLabel (.issue op arg)

/-- The state part of an ISSUE's enable (R140): `S.txbusy = 0` and `S.complete = 0`. -/
def issueEnabled (s : State) : Bool := !s.complete && !s.txbusy

/-- ISSUE REQ_FREQ (R142). -/
def execIssueReqFreq (arg : BitVec 32) (s : State) : Result :=
  perform (issueEnabled s) s (.next (issue .reqFreq arg s))

/-- ISSUE REQ_MODE (R143). -/
def execIssueReqMode (arg : BitVec 32) (s : State) : Result :=
  perform (issueEnabled s) s (.next (issue .reqMode arg s))

/-- ISSUE WRITE_FREQ (R144): the stored frequency is invalidated in the same step. -/
def execIssueWriteFreq (arg : BitVec 32) (s : State) : Result :=
  perform (issueEnabled s) s (.next ((issue .writeFreq arg s).setFreq s.cfg.freqSentinel))

/-- ISSUE WRITE_MODE (R145): the stored mode is invalidated in the same step. -/
def execIssueWriteMode (arg : BitVec 32) (s : State) : Result :=
  perform (issueEnabled s) s (.next ((issue .writeMode arg s).setMode s.cfg.modeSentinel))

end Sys2Proof.Machine
end

