-- ==== Sys2Proof/Machine/Dispatcher.lean ====
section
/-! DEFINITION. The frame validator and dispatcher: DISPATCH (42_dispatcher.md R120 to R133) and its command
classes, the DISPATCH.* rows of opcode_table.json. -/

namespace Sys2Proof.Machine

/-- What every path of DISPATCH does around its outcome: it clears `complete` (R122) and `length` (R132),
records the outcome (R133) and labels the step. `pcount` and the buffer keep their values. -/
def endDispatch (o : DispOutcome) (s : State) : State :=
  ((raise o.event s).setReceiver 0 s.pcount false).setLabel (.dispatch o o.returns)

/-- The frequency branch (R129). -/
def storeFrequency (s : State) : State := endDispatch .okFreq (s.setFreq (dec (framePayload s)))

/-- The mode branch (R130). -/
def storeMode (s : State) : State := endDispatch .okMode (s.setMode (frameMode s))

/-- An unrecognized command (R131): no write to `freq` or `mode`. -/
def leaveUnrecognized (s : State) : State := endDispatch .unrecognized s

/-- DISPATCH() (R121): "the first one that fails decides the outcome". -/
def dispatchFrame (s : State) : State :=
  if s.length = 0 then endDispatch .framingErr s
  else if frame s 0 ≠ preamble ∨ frame s 1 ≠ preamble ∨ frame s (s.length - 1) ≠ terminator then
    endDispatch .framingErr s
  else if frameDst s = s.cfg.echoAddr then endDispatch .echoSkipped s
  else if frameSrc s ≠ s.cfg.rigAddr then endDispatch .framingErr s
  else if frameCmd s = s.cfg.cmdTransferFreq ∨ frameCmd s = s.cfg.cmdGetFreq then storeFrequency s
  else if frameCmd s = s.cfg.cmdTransferMode ∨ frameCmd s = s.cfg.cmdGetMode then storeMode s
  else leaveUnrecognized s

/-- DISPATCH: runs where `S.complete = 1` (R120). -/
def execDispatch (s : State) : Result := perform s.complete s (.next (dispatchFrame s))

/-- The state column of the DISPATCH.* rows: a completed frame that passes the three checks. DESIGN CHOICE
(log 20): that `frame(4)` matches the class's row (30_encoding.md R80) is the decoder's doing and is not asked
again here, so a class asked on a frame with another command byte is performed. No step asks for one. -/
def classEnabled (s : State) : Bool := s.complete && frameAccepted s

/-- DISPATCH.TRANSFER_FREQ: the frequency branch (R129). -/
def execDispatchTransferFreq (s : State) : Result := perform (classEnabled s) s (.next (storeFrequency s))

/-- DISPATCH.GET_FREQ: the frequency branch (R129). -/
def execDispatchGetFreq (s : State) : Result := perform (classEnabled s) s (.next (storeFrequency s))

/-- DISPATCH.TRANSFER_MODE: the mode branch (R130). -/
def execDispatchTransferMode (s : State) : Result := perform (classEnabled s) s (.next (storeMode s))

/-- DISPATCH.GET_MODE: the mode branch (R130). -/
def execDispatchGetMode (s : State) : Result := perform (classEnabled s) s (.next (storeMode s))

/-- DISPATCH.SET_FREQ: an inbound set command is unrecognized (R131). -/
def execDispatchSetFreq (s : State) : Result := perform (classEnabled s) s (.next (leaveUnrecognized s))

/-- DISPATCH.SET_MODE: an inbound set command is unrecognized (R131). -/
def execDispatchSetMode (s : State) : Result := perform (classEnabled s) s (.next (leaveUnrecognized s))

/-- DISPATCH.STATUS_OK: a status frame has no branch (R72, R131). -/
def execDispatchStatusOk (s : State) : Result := perform (classEnabled s) s (.next (leaveUnrecognized s))

/-- DISPATCH.STATUS_NG: a status frame has no branch (R72, R131). -/
def execDispatchStatusNg (s : State) : Result := perform (classEnabled s) s (.next (leaveUnrecognized s))

/-- DISPATCH.STATUS_COLLISION: a status frame has no branch (R72, R131). -/
def execDispatchStatusCollision (s : State) : Result :=
  perform (classEnabled s) s (.next (leaveUnrecognized s))

/-- DISPATCH.OTHER: any other command byte is unrecognized (R131). The byte it carries has no effect
(log 20). -/
def execDispatchOther (_cmd : Byte) (s : State) : Result :=
  perform (classEnabled s) s (.next (leaveUnrecognized s))

end Sys2Proof.Machine
end

