-- ==== Sys2Proof/Machine/Receiver.lean ====
section
/-! DEFINITION. The frame receiver: RX_BYTE (41_receiver.md R105 to R110), its four steps in the source's
order. -/

namespace Sys2Proof.Machine

/-- `Append(b)` (R107): the state after it, and `ovf`. -/
def append (b : Byte) (s : State) : State × Bool :=
  if s.length < s.cfg.maxLen then
    ((s.setBuf (s.buf.write s.length b)).setReceiver (s.length + 1) s.pcount s.complete, false)
  else (s, true)

/-- Steps 1 and 2, an if and an else-if (R106): the state after them, and `ovf`. -/
def appendStep (b : Byte) (s : State) : State × Bool :=
  if b = preamble ∧ s.pcount < 2 then
    let r := append b s
    (r.1.setReceiver r.1.length (r.1.pcount + 1) r.1.complete, r.2)
  else if s.pcount = 2 then append b s
  else (s, false)

/-- Step 3 (R108): every byte equal to `TERMINATOR`, appended or not. -/
def terminatorStep (b : Byte) (s : State) : State :=
  if b = terminator then s.setReceiver s.length 0 true else s

/-- Step 4 and the report (R109): an overflow discards the frame; any other byte clears the report. -/
def overflowStep (ovf : Bool) (s : State) : State :=
  if ovf then raise .lengthOverflow (s.setReceiver 0 0 false) else s.setRxLenErr false

/-- The whole of RX_BYTE(b) (R106), with its label (R110). -/
def receive (b : Byte) (s : State) : State :=
  let r := appendStep b s
  let t := overflowStep r.2 (terminatorStep b r.1)
  t.setLabel (.rx b t.complete t.rxLenErr)

/-- RX_BYTE: "takes a byte only when `S.complete = 0`" (R105). -/
def execRxByte (b : Byte) (s : State) : Result :=
  perform (!s.complete) s (.next (receive b s))

end Sys2Proof.Machine
end

