-- ==== Sys2Proof/Machine/System.lean ====
section
/-! DEFINITION. RESET (70_reset_and_hazards.md R185) and the two IDLE rows (45_scheduler.md R155). -/

namespace Sys2Proof.Machine

/-- The writes of RESET (R185); the configuration and the words still to be offered are no state of the
block (logs 1 and 3). -/
def resetElements (s : State) : State :=
  ((((((((((s.setBuf []).setTxbuf []).setReceiver 0 0 false).setRxLenErr false).setFreq
    s.cfg.freqSentinel).setMode s.cfg.modeSentinel).setDispStatus dispNone).setSend 0 0 false).setTxStatus
    txNone).setLabel .reset)

/-- RESET: performed "whatever the state and the other inputs" (R163). -/
def execReset (s : State) : Result :=
  if s.cfg.valid then .next (resetElements s) else .refused .badConfiguration

/-- IDLE.TXWAIT: "waiting for the transport" (R155); no state change. -/
def execIdleTxwait (s : State) : Result :=
  perform (!s.complete && s.txbusy) s (.next (s.setLabel .idle))

/-- IDLE: "no state change" (R155, R184). -/
def execIdle (s : State) : Result :=
  perform (!s.complete && !s.txbusy) s (.next (s.setLabel .idle))

end Sys2Proof.Machine
end

