-- ==== Sys2Proof/Machine/Transmitter.lean ====
section
/-! DEFINITION. The byte transmitter: TX_BYTE (43_builders.md R146 to R149). -/

namespace Sys2Proof.Machine

/-- `S.txbuf[S.txidx]` (R147), which exists only below index 11 (20_memory.md R50). DESIGN CHOICE
(log 10): from index 11 on there is no byte and TX_BYTE faults, while the port `txData` shows a byte. -/
def presentedByte (s : State) : Option Byte :=
  if s.txidx < txCapacity then some (s.txbuf.read s.txidx) else none

/-- The write of the presented byte succeeded (R147); after the last one the send is done (R149). -/
def written (s : State) : State :=
  if s.txidx + 1 = s.txlen then raise .sendDone (s.setSend s.txlen (s.txidx + 1) false)
  else s.setSend s.txlen (s.txidx + 1) s.txbusy

/-- The write failed (R148): the send is aborted and `txidx` keeps the index of the failed byte. -/
def writeFailed (s : State) : State := raise .writeFailure (s.setSend s.txlen s.txidx false)

/-- TX_BYTE(ok) (R147), with its label `TX(b, ok, S.txbusy = 0)`. -/
def transmit (ok : Bool) (s : State) : Result :=
  match presentedByte s with
  | none => .fault .txbufIndexOutside
  | some b =>
    let t := if ok then written s else writeFailed s
    .next (t.setLabel (.tx b ok !t.txbusy))

/-- TX_BYTE: runs where `S.txbusy = 1` and `S.complete = 0` (R146). -/
def execTxByte (ok : Bool) (s : State) : Result :=
  perform (!s.complete && s.txbusy) s (transmit ok s)

end Sys2Proof.Machine
end

