-- ==== Sys2Proof/Machine/Dispatch.lean ====
section
/-! DEFINITION. The meaning of each operation, one arm per constructor of Instr. -/

namespace Sys2Proof.Machine

/-- The outcome of an operation in a state. -/
def exec (i : Instr) (s : State) : Host.Outcome State Fault Refusal :=
  match i with
  | .reset => Sys2Proof.Machine.execReset s
  | .dispatch => Sys2Proof.Machine.execDispatch s
  | .rxByte b => Sys2Proof.Machine.execRxByte b s
  | .txByte ok => Sys2Proof.Machine.execTxByte ok s
  | .issueReqFreq arg => Sys2Proof.Machine.execIssueReqFreq arg s
  | .issueReqMode arg => Sys2Proof.Machine.execIssueReqMode arg s
  | .issueWriteFreq arg => Sys2Proof.Machine.execIssueWriteFreq arg s
  | .issueWriteMode arg => Sys2Proof.Machine.execIssueWriteMode arg s
  | .idleTxwait => Sys2Proof.Machine.execIdleTxwait s
  | .idle => Sys2Proof.Machine.execIdle s
  | .dispatchTransferFreq => Sys2Proof.Machine.execDispatchTransferFreq s
  | .dispatchGetFreq => Sys2Proof.Machine.execDispatchGetFreq s
  | .dispatchTransferMode => Sys2Proof.Machine.execDispatchTransferMode s
  | .dispatchGetMode => Sys2Proof.Machine.execDispatchGetMode s
  | .dispatchSetFreq => Sys2Proof.Machine.execDispatchSetFreq s
  | .dispatchSetMode => Sys2Proof.Machine.execDispatchSetMode s
  | .dispatchStatusOk => Sys2Proof.Machine.execDispatchStatusOk s
  | .dispatchStatusNg => Sys2Proof.Machine.execDispatchStatusNg s
  | .dispatchStatusCollision => Sys2Proof.Machine.execDispatchStatusCollision s
  | .dispatchOther cmd => Sys2Proof.Machine.execDispatchOther cmd s

end Sys2Proof.Machine
end

