-- ==== Sys2Proof/Decode.lean ====
section
/-! DEFINITION. The two encodings of 30_encoding.md and their decoder, total on any bits: the 47-bit input
word (R74), read together with the state conditions of 45_scheduler.md R155, and the command byte `frame(4)`
of an accepted frame (R69, R80). Only bits that are no word of their format are refused, by name; "no input
word is illegal" (R76). Then the encoder, written from the same tables, the opcode table's rows, and the
reading of a bare table word. -/

namespace Sys2Proof

/-! ### The fields of the input word (R74) -/

/-- `IN[0]`, `rst`. -/
def inRst (w : InputWord) : Bool := w.getLsbD 0
/-- `IN[1]`, `rx_valid`. -/
def inRxValid (w : InputWord) : Bool := w.getLsbD 1
/-- `IN[9:2]`, `rx_data`. -/
def inRxData (w : InputWord) : Byte := w.extractLsb' 2 8
/-- `IN[10]`, `cmd_valid`. -/
def inCmdValid (w : InputWord) : Bool := w.getLsbD 10
/-- `IN[12:11]`, `cmd_op`. -/
def inCmdOp (w : InputWord) : BitVec 2 := w.extractLsb' 11 2
/-- `IN[44:13]`, `cmd_arg`. -/
def inCmdArg (w : InputWord) : BitVec 32 := w.extractLsb' 13 32
/-- `IN[45]`, `tx_ack`. -/
def inTxAck (w : InputWord) : Bool := w.getLsbD 45
/-- `IN[46]`, `tx_ok`. -/
def inTxOk (w : InputWord) : Bool := w.getLsbD 46

/-- The input word with the given fields: "`IN = rst | rx_valid<<1 | rx_data<<2 | cmd_valid<<10 |
cmd_op<<11 | cmd_arg<<13 | tx_ack<<45 | tx_ok<<46`" (95_test_vectors.md section 6, from R74). -/
def packInput (txOk txAck : Bool) (arg : BitVec 32) (op : BitVec 2) (cmdValid : Bool) (rxData : Byte)
    (rxValid rst : Bool) : InputWord :=
  (BitVec.ofBool rst).zeroExtend 47 ||| (BitVec.ofBool rxValid).zeroExtend 47 <<< 1 |||
    rxData.zeroExtend 47 <<< 2 ||| (BitVec.ofBool cmdValid).zeroExtend 47 <<< 10 |||
    op.zeroExtend 47 <<< 11 ||| arg.zeroExtend 47 <<< 13 ||| (BitVec.ofBool txAck).zeroExtend 47 <<< 45 |||
    (BitVec.ofBool txOk).zeroExtend 47 <<< 46

/-- What of the state the selection of an operation reads (R80, R155): `complete`, `txbusy` and, for a
completed frame that passes DISPATCH's structural, echo and source checks, its command byte. -/
structure Context where
  /-- `S.complete`. -/
  complete : Bool
  /-- `S.txbusy`. -/
  txbusy : Bool
  /-- `frame(4)` when the checks of R121 pass. -/
  accepted : Option Byte
deriving DecidableEq, Repr

/-- The command `cmd_op` selects, with its operand (R74, R75). -/
def decodeIssue (op : BitVec 2) (arg : BitVec 32) : Instr :=
  if op = 0 then .issueReqFreq arg
  else if op = 1 then .issueReqMode arg
  else if op = 2 then .issueWriteFreq arg
  else .issueWriteMode arg

/-- The command class of an accepted frame's command byte (R69, R80). -/
def decodeCommand (cfg : Config) (cmd : Byte) : Instr :=
  if cmd = cfg.cmdTransferFreq then .dispatchTransferFreq
  else if cmd = cfg.cmdGetFreq then .dispatchGetFreq
  else if cmd = cfg.cmdTransferMode then .dispatchTransferMode
  else if cmd = cfg.cmdGetMode then .dispatchGetMode
  else if cmd = cfg.cmdSetFreq then .dispatchSetFreq
  else if cmd = cfg.cmdSetMode then .dispatchSetMode
  else if cmd = statusOk then .dispatchStatusOk
  else if cmd = statusNg then .dispatchStatusNg
  else if cmd = statusCollision then .dispatchStatusCollision
  else .dispatchOther cmd

/-- The operation a step selects: the priority of 45_scheduler.md R155. A completed frame selects its
command class when its checks pass, and the row DISPATCH when one of them fails (log 12). -/
def decodeInput (cfg : Config) (c : Context) (w : InputWord) : Instr :=
  if inRst w then .reset
  else if c.complete then
    match c.accepted with
    | some cmd => decodeCommand cfg cmd
    | none => .dispatch
  else if inRxValid w then .rxByte (inRxData w)
  else if c.txbusy then
    if inTxAck w then .txByte (inTxOk w) else .idleTxwait
  else if inCmdValid w then decodeIssue (inCmdOp w) (inCmdArg w)
  else .idle

/-- An instruction's word: the input word of a step, or the command byte of an accepted frame (R80). -/
inductive Encoding where
  /-- Format IN47 (R74). -/
  | input (w : InputWord)
  /-- Format FRAME_CMD (R69). -/
  | command (cmd : Byte)
deriving DecidableEq, Repr

/-- The two formats of opcode_table.json. -/
inductive Format where
  /-- 47 bits. -/
  | in47
  /-- 8 bits. -/
  | frameCmd
deriving DecidableEq, Repr

/-- Why bits are no word of their format. -/
inductive DecodeRefusal where
  /-- A bit above bit 46 is set in a word of format IN47 (R74). Safe. -/
  | inputWordTooWide
  /-- A bit above bit 7 is set in a word of format FRAME_CMD (R69). Safe. -/
  | commandByteTooWide
deriving DecidableEq, Repr

/-- The instruction a word stands for in a context. -/
def decode (cfg : Config) (c : Context) : Encoding → Instr
  | .input w => decodeInput cfg c w
  | .command cmd => decodeCommand cfg cmd

/-- The decoder on any bits of a format; bits beyond the format's width are refused (log 13). -/
def decodeBits (cfg : Config) (c : Context) (f : Format) (w : Nat) : Except DecodeRefusal Instr :=
  match f with
  | .in47 => if w < 2 ^ 47 then .ok (decode cfg c (.input (BitVec.ofNat 47 w))) else .error .inputWordTooWide
  | .frameCmd => if w < 2 ^ 8 then .ok (decode cfg c (.command (BitVec.ofNat 8 w))) else .error .commandByteTooWide

/-! ### The encoder -/

/-- The input word of an ISSUE (R74, R78): `cmd_valid`, `cmd_op` and `cmd_arg`, every other field 0. -/
def encodeIssue (op : BitVec 2) (arg : BitVec 32) : InputWord :=
  packInput false false arg op true 0 false false

/-- The word of an instruction: the input word of R78 with every field it does not use 0, or the
command byte of its class (R69). -/
def encode (cfg : Config) : Instr → Encoding
  | .reset => .input (packInput false false 0 0 false 0 false true)
  | .dispatch => .input 0
  | .rxByte b => .input (packInput false false 0 0 false b true false)
  | .txByte ok => .input (packInput ok true 0 0 false 0 false false)
  | .issueReqFreq arg => .input (encodeIssue 0 arg)
  | .issueReqMode arg => .input (encodeIssue 1 arg)
  | .issueWriteFreq arg => .input (encodeIssue 2 arg)
  | .issueWriteMode arg => .input (encodeIssue 3 arg)
  | .idleTxwait => .input 0
  | .idle => .input 0
  | .dispatchTransferFreq => .command cfg.cmdTransferFreq
  | .dispatchGetFreq => .command cfg.cmdGetFreq
  | .dispatchTransferMode => .command cfg.cmdTransferMode
  | .dispatchGetMode => .command cfg.cmdGetMode
  | .dispatchSetFreq => .command cfg.cmdSetFreq
  | .dispatchSetMode => .command cfg.cmdSetMode
  | .dispatchStatusOk => .command statusOk
  | .dispatchStatusNg => .command statusNg
  | .dispatchStatusCollision => .command statusCollision
  | .dispatchOther cmd => .command cmd

/-- A context in which an instruction's row may be selected: the "state" column of opcode_table.json. -/
def contextFor (cfg : Config) : Instr → Context
  | .reset | .rxByte _ | .issueReqFreq _ | .issueReqMode _ | .issueWriteFreq _ | .issueWriteMode _
  | .idle => ⟨false, false, none⟩
  | .txByte _ | .idleTxwait => ⟨false, true, none⟩
  | .dispatch => ⟨true, false, none⟩
  | .dispatchTransferFreq => ⟨true, false, some cfg.cmdTransferFreq⟩
  | .dispatchGetFreq => ⟨true, false, some cfg.cmdGetFreq⟩
  | .dispatchTransferMode => ⟨true, false, some cfg.cmdTransferMode⟩
  | .dispatchGetMode => ⟨true, false, some cfg.cmdGetMode⟩
  | .dispatchSetFreq => ⟨true, false, some cfg.cmdSetFreq⟩
  | .dispatchSetMode => ⟨true, false, some cfg.cmdSetMode⟩
  | .dispatchStatusOk => ⟨true, false, some statusOk⟩
  | .dispatchStatusNg => ⟨true, false, some statusNg⟩
  | .dispatchStatusCollision => ⟨true, false, some statusCollision⟩
  | .dispatchOther cmd => ⟨true, false, some cmd⟩

/-! ### The opcode table's rows -/

/-- One IN47 row of opcode_table.json: its mask and match on the input word, and its state column. -/
structure InputRow where
  /-- The row's name. -/
  mnemonic : String
  /-- The bits the row looks at. -/
  mask : InputWord
  /-- Their values. -/
  value : InputWord
  /-- The row's condition on `complete`, if it has one. -/
  complete : Option Bool
  /-- The row's condition on `txbusy`, if it has one. -/
  txbusy : Option Bool
deriving DecidableEq, Repr

/-- The ten IN47 rows, in the table's order (R80). -/
def inputRows : List InputRow :=
  [⟨"RESET", 0x1, 0x1, none, none⟩,
   ⟨"DISPATCH", 0x1, 0x0, some true, none⟩,
   ⟨"RX_BYTE", 0x3, 0x2, some false, none⟩,
   ⟨"TX_BYTE", 0x200000000003, 0x200000000000, some false, some true⟩,
   ⟨"ISSUE_REQ_FREQ", 0x1C03, 0x400, some false, some false⟩,
   ⟨"ISSUE_REQ_MODE", 0x1C03, 0xC00, some false, some false⟩,
   ⟨"ISSUE_WRITE_FREQ", 0x1C03, 0x1400, some false, some false⟩,
   ⟨"ISSUE_WRITE_MODE", 0x1C03, 0x1C00, some false, some false⟩,
   ⟨"IDLE.TXWAIT", 0x200000000003, 0x0, some false, some true⟩,
   ⟨"IDLE", 0x403, 0x0, some false, some false⟩]

/-- A condition of a row's state column holds. -/
def condMet (want : Option Bool) (actual : Bool) : Bool :=
  match want with
  | none => true
  | some b => b == actual

/-- A row matches an input word in a context: its bits and its state column. -/
def InputRow.meets (r : InputRow) (c : Context) (w : InputWord) : Bool :=
  decide (w &&& r.mask = r.value) && condMet r.complete c.complete && condMet r.txbusy c.txbusy

/-- The FRAME_CMD rows but DISPATCH.OTHER, in the table's order: the name and the parameter matched. -/
def commandRows (cfg : Config) : List (String × Byte) :=
  [("DISPATCH.TRANSFER_FREQ", cfg.cmdTransferFreq), ("DISPATCH.GET_FREQ", cfg.cmdGetFreq),
   ("DISPATCH.TRANSFER_MODE", cfg.cmdTransferMode), ("DISPATCH.GET_MODE", cfg.cmdGetMode),
   ("DISPATCH.SET_FREQ", cfg.cmdSetFreq), ("DISPATCH.SET_MODE", cfg.cmdSetMode),
   ("DISPATCH.STATUS_OK", statusOk), ("DISPATCH.STATUS_NG", statusNg),
   ("DISPATCH.STATUS_COLLISION", statusCollision)]

/-! ### A bare table word

Several rows of opcode_table.json have the same bits and are told apart only by format and state. DESIGN
CHOICE (log 13): a bare word stands for the first row of the table, in the table's order, that it is the
match word of. So the words 0, 1 and 2 of at most 8 bits are DISPATCH, RESET and RX_BYTE, any other word of
at most 8 bits is a command byte, and a wider word is an input word. -/

/-- The bare word is a command byte (log 13). -/
def tableIsCommand (nbits w : Nat) : Bool := decide (nbits ≤ 8) && decide (2 < w)

/-- The format of a bare table word (log 13). -/
def tableFormat (nbits w : Nat) : Format := if tableIsCommand nbits w then .frameCmd else .in47

/-- The context in which a bare table word is its row (log 13): a completed frame for a command byte and
for DISPATCH, a send in progress for a word with `tx_ack`, and an idle block for every other word. -/
def tableContext (nbits w : Nat) : Context :=
  if tableIsCommand nbits w then ⟨true, false, some (BitVec.ofNat 8 w)⟩
  else if nbits ≤ 8 && w == 0 then ⟨true, false, none⟩
  else ⟨false, inTxAck (BitVec.ofNat 47 w), none⟩

/-- The instruction the decoder reads from a bare table word, under the reference configuration (R6). -/
def decodeTableWord (nbits w : Nat) : Option Instr :=
  match decodeBits Config.reference (tableContext nbits w) (tableFormat nbits w) w with
  | .ok i => some i
  | .error _ => none

end Sys2Proof
end

