-- ==== Sys2Proof/Machine/Fetch.lean ====
section
/-! DEFINITION. How a step comes to its operation: it samples the input word (45_scheduler.md R155) and
selects the operation from it and the state. The block fetches no instructions (20_memory.md R63); the
input word is what stands in a fetch's place. -/

namespace Sys2Proof.Machine

/-- The input word sampled at this step: the next offered one; past the end of the list nothing is offered,
every bit 0 (log 4). -/
def sampledWord (s : State) : InputWord := s.inputs.headD 0

/-- The state once the word is sampled: each edge samples one word (R155; log 3). -/
def afterSample (s : State) : State := s.setInputs s.inputs.tail

/-- What the selection reads of the state (R80, R155). -/
def contextOf (s : State) : Context :=
  ⟨s.complete, s.txbusy, if frameAccepted s then some (frameCmd s) else none⟩

/-- The operation this step performs (R155). -/
def selected (s : State) : Instr := decodeInput s.cfg (contextOf s) (sampledWord s)

/-- An 11-byte inbound frame from the rig with this command byte and a payload of zeros. Its destination
is the one of `OWN_ADDR` and `RIG_ADDR` that is not `ECHO_ADDR`, so that it passes the checks of R121. -/
def inboundFrame (cfg : Config) (cmd : Byte) : List Byte :=
  [preamble, preamble, if cfg.echoAddr = ownAddr then cfg.rigAddr else ownAddr, cfg.rigAddr, cmd,
    0, 0, 0, 0, 0, terminator]

/-- The state with this frame received and complete. -/
def withReceived (f : List Byte) (s : State) : State :=
  (s.setBuf (s.buf.writeFrom 0 f)).setReceiver f.length 0 true

/-- The state without a completed frame; a frame being received stays. -/
def withoutComplete (s : State) : State := if s.complete then s.setReceiver 0 0 false else s

/-- The state with a send in progress: the one it has, or else a fresh REQ_FREQ frame. -/
def withSend (s : State) : State :=
  if s.txbusy then s else startSend (buildFrame s.cfg .reqFreq 0) s

/-- The state without a send in progress. -/
def withoutSend (s : State) : State := s.setSend s.txlen s.txidx false

/-- The state whose next step runs the instruction of a bare table word (log 13). A command byte arrives in
a completed frame, and DISPATCH finds a completed empty frame; each with a next input word of zeros. An
input word becomes the next input word, and `complete` and `txbusy` are made what its row's state column
asks. -/
def placeTableWord (s : State) (nbits w : Nat) : State :=
  let v := BitVec.ofNat 47 w
  if tableIsCommand nbits w then
    (withReceived (inboundFrame s.cfg (BitVec.ofNat 8 w)) s).setInputs (0 :: s.inputs.tail)
  else if (tableContext nbits w).complete then
    (s.setReceiver 0 0 true).setInputs (0 :: s.inputs.tail)
  else if inRst v then s.setInputs (v :: s.inputs.tail)
  else if inRxValid v then (withoutComplete s).setInputs (v :: s.inputs.tail)
  else if (tableContext nbits w).txbusy then
    (withSend (withoutComplete s)).setInputs (v :: s.inputs.tail)
  else (withoutSend (withoutComplete s)).setInputs (v :: s.inputs.tail)

end Sys2Proof.Machine
end

