-- ==== Sys2Proof/Machine/Step.lean ====
section
/-! DEFINITION. One step of the block (45_scheduler.md R155): sample the input word, select the operation,
perform it. -/

namespace Sys2Proof.Machine

/-- `Step(S, IN)` (R155), with the next offered word as `IN`. -/
def step (s : State) : Host.Outcome State Fault Refusal := exec (selected s) (afterSample s)

/-- The state whose next step runs exactly the instruction with bits `w` (log 13). -/
def State.withFetchWord (s : State) (nbits w : Nat) : State := placeTableWord s nbits w

end Sys2Proof.Machine
end

