-- ==== Sys2Proof/Machine/Ports.lean ====
section
/-! DEFINITION. The outputs of the block (45_scheduler.md R158 to R162), as functions of the state and of the
input word offered at the step (log 18). Reading one changes nothing (20_memory.md R59). -/

namespace Sys2Proof.Machine

/-- `rx_ready = ¬rst ∧ ¬S.complete` (R159). -/
def rxReady (s : State) (w : InputWord) : Bool := !inRst w && !s.complete

/-- `cmd_ready = ¬rst ∧ ¬S.complete ∧ ¬rx_valid ∧ ¬S.txbusy` (R160). -/
def cmdReady (s : State) (w : InputWord) : Bool :=
  !inRst w && !s.complete && !inRxValid w && !s.txbusy

/-- `tx_valid_o = ¬rst ∧ ¬S.complete ∧ ¬rx_valid ∧ S.txbusy` (R161). -/
def txValid (s : State) (w : InputWord) : Bool :=
  !inRst w && !s.complete && !inRxValid w && s.txbusy

/-- `tx_data_o`: `S.txbuf[S.txidx]` while busy, else 0x00 (R161). DESIGN CHOICE (log 10): in a busy state
with `txidx` at 11 or above, which no run reaches (10_state.md R39), `txbuf` has no such cell (20_memory.md
R50) and R161 gives the port no value; the port is total and shows what `Memory.read` answers, 0x00 where no
such cell is listed, while TX_BYTE there finds no byte and faults (`presentedByte`). -/
def txData (s : State) : Byte := if s.txbusy then s.txbuf.read s.txidx else 0x00

/-- The output ports of R158. -/
structure Outputs where
  /-- `rx_ready`. -/
  rxReady : Bool
  /-- `cmd_ready`. -/
  cmdReady : Bool
  /-- `tx_valid_o`. -/
  txValid : Bool
  /-- `tx_data_o`. -/
  txData : Byte
  /-- `complete_o`. -/
  complete : Bool
  /-- `freq_o`. -/
  freq : Freq
  /-- `mode_o`. -/
  mode : Byte
  /-- `disp_status_o`. -/
  dispStatus : BitVec 3
  /-- `rx_lenerr_o`. -/
  rxLenErr : Bool
  /-- `tx_busy_o`. -/
  txBusy : Bool
  /-- `tx_status_o`. -/
  txStatus : BitVec 2
deriving DecidableEq, Repr

/-- All the host sees (10_state.md R35) while a word is offered. -/
def outputs (s : State) (w : InputWord) : Outputs where
  rxReady := rxReady s w
  cmdReady := cmdReady s w
  txValid := txValid s w
  txData := txData s
  complete := s.complete
  freq := s.freq
  mode := s.mode
  dispStatus := s.dispStatus
  rxLenErr := s.rxLenErr
  txBusy := s.txbusy
  txStatus := s.txStatus

/-- The dispatcher's return value on the ports: `disp_status_o ∈ {OK_FREQ, OK_MODE}` (R162). -/
def dispatcherReturn (o : Outputs) : Bool := o.dispStatus == dispOkFreq || o.dispStatus == dispOkMode

/-- The send primitive's return value on the ports, once `tx_busy_o` has fallen (R162). DESIGN CHOICE (log
18): none where no send has finished (`tx_status` NONE, or the reserved code). -/
def sendReturn (o : Outputs) : Option Bool :=
  if o.txBusy then none
  else if o.txStatus = txDoneOk then some true
  else if o.txStatus = txWriteFail then some false
  else none

/-- What the transport writes to the bus at this step, with its verdict: "only in a step where
`tx_valid_o = 1` and it asserts `tx_ack = 1`" (R157(c), R161). Its byte is that of the port, so the choice
marked at `txData` (log 10) is made here too. -/
def busWrite (s : State) (w : InputWord) : Option (Byte × Bool) :=
  if txValid s w && inTxAck w then some (txData s, inTxOk w) else none

end Sys2Proof.Machine
end

