-- ==== Sys2Proof/Machine/Environment.lean ====
section
/-! DEFINITION. The duties of the environment (45_scheduler.md R157) as a check of a stream of input words.
"A model may reject such an input stream" (93_implementation_defined.md I20): `step` goes on whatever the
words are, and a claim that needs the duties takes this check as a premise (log 14). -/

namespace Sys2Proof.Machine

/-- Duty (a): an offered byte that this step does not consume is offered again, unchanged. -/
def byteHeld (s : State) (w next : InputWord) : Bool :=
  !(inRxValid w && !rxReady s w) || (inRxValid next && inRxData next == inRxData w)

/-- Duty (b): an offered command that this step does not consume is offered again, unchanged. -/
def commandHeld (s : State) (w next : InputWord) : Bool :=
  !(inCmdValid w && !cmdReady s w) ||
    (inCmdValid next && inCmdOp next == inCmdOp w && inCmdArg next == inCmdArg w)

/-- The stream keeps duties (a) and (b) from this state on. DESIGN CHOICE (log 14): an offer that is still
unconsumed at the stream's last word counts as kept, since no later word is there to change it. A step past the
end samples 0 (log 4), which withdraws that offer; the check says nothing of such a step. DESIGN CHOICE (log
14): after a step that faults or is refused there is no next state to offer the later words to, and the rest of
the stream counts as kept. The words checked are the stream's, whatever words the state itself has to come. -/
def obeysDuties : List InputWord → State → Bool
  | w :: next :: ws, s =>
    byteHeld s w next && commandHeld s w next &&
      (match step (s.setInputs [w]) with
       | .next t => obeysDuties (next :: ws) t
       | .fault _ => true
       | .refused _ => true)
  | [_], _ => true
  | [], _ => true

end Sys2Proof.Machine
end

