-- ==== Sys2Proof/Machine/Trace.lean ====
section
/-! DEFINITION. The trace syntax of 30_encoding.md R78 and R79: the lines of a program, the input word of
each, the expansion of the pseudo-operations, the check that a program is well formed, and the reading of a
line of text. -/

namespace Sys2Proof.Machine

/-- An `op` of R78. -/
inductive TraceOp where
  /-- `RESET`. -/
  | reset
  /-- `IDLE`. -/
  | idle
  /-- `RX hexbyte`. -/
  | rx (b : Byte)
  /-- `DISPATCH`. -/
  | dispatch
  /-- `ISSUE REQ_FREQ`. -/
  | issueReqFreq
  /-- `ISSUE REQ_MODE`. -/
  | issueReqMode
  /-- `ISSUE WRITE_FREQ decimal`. -/
  | issueWriteFreq (f : Nat)
  /-- `ISSUE WRITE_MODE hexbyte`. -/
  | issueWriteMode (m : Byte)
  /-- `TX ok` or `TX fail`. -/
  | tx (ok : Bool)
deriving DecidableEq, Repr

/-- A line: an operation, or a pseudo-operation of R79. -/
inductive TraceLine where
  /-- One operation. -/
  | op (o : TraceOp)
  /-- `RXS h1 … hk`. -/
  | rxs (bs : List Byte)
  /-- `RXF h1 … hk`. -/
  | rxf (bs : List Byte)
  /-- `SEND n`. -/
  | send (n : Nat)
  /-- `ECHOSEND`. -/
  | echoSend
deriving DecidableEq, Repr

/-- "decimal integer in [0, 2^32)" (R78). -/
def TraceOp.inRange : TraceOp → Bool
  | .issueWriteFreq f => decide (f < 2 ^ 32)
  | .reset | .idle | .rx _ | .dispatch | .issueReqFreq | .issueReqMode | .issueWriteMode _ | .tx _ => true

/-- The input word a line stands for, "a field not listed is 0" (R78). -/
def TraceOp.word : TraceOp → InputWord
  | .reset => packInput false false 0 0 false 0 false true
  | .idle => 0
  | .rx b => packInput false false 0 0 false b true false
  | .dispatch => 0
  | .issueReqFreq => encodeIssue 0 0
  | .issueReqMode => encodeIssue 1 0
  | .issueWriteFreq f => encodeIssue 2 (BitVec.ofNat 32 f)
  | .issueWriteMode m => encodeIssue 3 (m.zeroExtend 32)
  | .tx ok => packInput ok true 0 0 false 0 false false

/-- An operation is a DISPATCH, of whatever outcome (R121). -/
def isDispatch : Instr → Bool
  | .dispatch | .dispatchTransferFreq | .dispatchGetFreq | .dispatchTransferMode | .dispatchGetMode
  | .dispatchSetFreq | .dispatchSetMode | .dispatchStatusOk | .dispatchStatusNg
  | .dispatchStatusCollision | .dispatchOther _ => true
  | .reset | .rxByte _ | .txByte _ | .issueReqFreq _ | .issueReqMode _ | .issueWriteFreq _
  | .issueWriteMode _ | .idleTxwait | .idle => false

/-- The line names the operation that the step performs (R78). -/
def TraceOp.names (o : TraceOp) (i : Instr) : Bool :=
  match o with
  | .reset => i == .reset
  | .idle => i == .idle || i == .idleTxwait
  | .rx b => i == .rxByte b
  | .dispatch => isDispatch i
  | .issueReqFreq => i == .issueReqFreq 0
  | .issueReqMode => i == .issueReqMode 0
  | .issueWriteFreq f => i == .issueWriteFreq (BitVec.ofNat 32 f)
  | .issueWriteMode m => i == .issueWriteMode (m.zeroExtend 32)
  | .tx ok => i == .txByte ok

/-- A line is well formed at a state "exactly when each line's operation is the one R155 selects for that
line's input word" (R78). -/
def TraceOp.wellFormedAt (o : TraceOp) (s : State) : Bool :=
  o.inRange && o.names (selected (s.setInputs [o.word]))

/-- The expansion of a line at the state it is reached in (R79); ECHOSEND reads the transmit shadow, and
its expansion ends with the DISPATCH of the echo (log 17). Which cells it lists, and an expansion to no line
at all, are the model's reading (log 21). -/
def TraceLine.expand (s : State) : TraceLine → List TraceOp
  | .op o => [o]
  | .rxs bs => bs.map .rx
  | .rxf bs => bs.map .rx ++ [.dispatch]
  | .send n => List.replicate n (.tx true)
  | .echoSend =>
    ((List.range s.txlen).flatMap fun i => [.tx true, .rx (s.txbuf.read i)]) ++ [.dispatch]

/-- The state after these operations, none where one of them is not well formed or the machine stops
(log 21). -/
def runOps : List TraceOp → State → Option State
  | [], s => some s
  | o :: os, s =>
    if o.wellFormedAt s then
      match step (s.setInputs [o.word]) with
      | .next t => runOps os t
      | .fault _ => none
      | .refused _ => none
    else none

/-- The checker's answer: "A checker rejects a program that is not well-formed, naming the line" (R78). -/
inductive TraceVerdict where
  /-- Every line is well formed; the state at the end. -/
  | accepted (s : State)
  /-- The first line that is not well formed, counted from the checker's start number; a pseudo-operation
  counts as one line, whatever it expands to (DESIGN CHOICE, log 21). -/
  | rejected (line : Nat)
deriving DecidableEq, Repr

/-- The check of a program (R78), its lines numbered from `n`. DESIGN CHOICE (log 21): the lines are those the
program is written in, so a pseudo-operation (R79) is one line, and where a line of its expansion is not well
formed the checker names the pseudo-operation's number. R78 has one line per step and R79 several lines for
one, and neither says which of the two is named. -/
def checkProgram (n : Nat) : List TraceLine → State → TraceVerdict
  | [], s => .accepted s
  | l :: ls, s =>
    match runOps (l.expand s) s with
    | some t => checkProgram (n + 1) ls t
    | none => .rejected n

/-! ### Reading a line of text (R78; the lexical details the grammar leaves open are log 17) -/

/-- The blank-separated words of a line. -/
def lineWords (cs : List Char) : List (List Char) :=
  let r := cs.foldr (fun c r => if c = ' ' ∨ c = '\t' then (if r.1 = [] then ([], r.2) else ([], r.1 :: r.2))
    else (c :: r.1, r.2)) (([], []) : List Char × List (List Char))
  if r.1 = [] then r.2 else r.1 :: r.2

/-- The line without its comment. -/
def withoutComment (cs : List Char) : List Char := cs.takeWhile (· != ';')

/-- The line without its label. -/
def withoutLabel (cs : List Char) : List Char :=
  if cs.contains ':' then (cs.dropWhile (· != ':')).drop 1 else cs

/-- A digit's value in the given base. -/
def digitValue (base : Nat) (c : Char) : Option Nat :=
  let v :=
    if '0'.toNat ≤ c.toNat ∧ c.toNat ≤ '9'.toNat then some (c.toNat - '0'.toNat)
    else if 'A'.toNat ≤ c.toNat ∧ c.toNat ≤ 'F'.toNat then some (c.toNat - 'A'.toNat + 10)
    else if 'a'.toNat ≤ c.toNat ∧ c.toNat ≤ 'f'.toNat then some (c.toNat - 'a'.toNat + 10)
    else none
  v.filter (· < base)

/-- A `hexbyte`: "two hex digits" (R78). -/
def hexByte : List Char → Option Byte
  | [a, b] =>
    match digitValue 16 a, digitValue 16 b with
    | some x, some y => some (BitVec.ofNat 8 (16 * x + y))
    | _, _ => none
  | _ => none

/-- A `decimal`, one digit or more (R78). -/
def decimal (cs : List Char) : Option Nat :=
  if cs = [] then none
  else cs.foldl (fun acc c =>
    match acc, digitValue 10 c with
    | some x, some y => some (10 * x + y)
    | _, _ => none) (some 0)

/-- The operands of an `ISSUE` line. -/
def parseIssue : List (List Char) → Option TraceOp
  | [c] =>
    if c = "REQ_FREQ".toList then some .issueReqFreq
    else if c = "REQ_MODE".toList then some .issueReqMode
    else none
  | [c, x] =>
    if c = "WRITE_FREQ".toList then (decimal x).map .issueWriteFreq
    else if c = "WRITE_MODE".toList then (hexByte x).map .issueWriteMode
    else none
  | _ => none

/-- The line a list of words stands for, none where the grammar has no such line. -/
def parseWords : List (List Char) → Option TraceLine
  | [] => none
  | [w] =>
    if w = "RESET".toList then some (.op .reset)
    else if w = "IDLE".toList then some (.op .idle)
    else if w = "DISPATCH".toList then some (.op .dispatch)
    else if w = "ECHOSEND".toList then some .echoSend
    else none
  | w :: x :: xs =>
    if w = "ISSUE".toList then (parseIssue (x :: xs)).map .op
    else if w = "RXS".toList then ((x :: xs).mapM hexByte).map .rxs
    else if w = "RXF".toList then ((x :: xs).mapM hexByte).map .rxf
    else if w = "RX".toList ∧ xs = [] then (hexByte x).map fun b => .op (.rx b)
    else if w = "SEND".toList ∧ xs = [] then (decimal x).map .send
    else if w = "TX".toList ∧ xs = [] then
      (if x = "ok".toList then some (.op (.tx true))
       else if x = "fail".toList then some (.op (.tx false))
       else none)
    else none

/-- A line of text (R78): `[label ":"] op [";" comment]`. -/
def parseLine (cs : List Char) : Option TraceLine :=
  parseWords (lineWords (withoutLabel (withoutComment cs)))

end Sys2Proof.Machine
end

