-- ==== Sys2Proof/Safety.lean ====
section
/-! DEFINITION. The terms the statements use: the invariants of 10_state.md R36 to R39 with the ranges and
reserved codes of R20, R27 and R33; runs and their labels; and what a safe run is. -/

namespace Sys2Proof.Machine

/-- The model stops for no reason of its own in this state: the configuration is legal (R7), and no code or
count is one the spec calls unreachable (R20, I15, I16). -/
abbrev State.Sound (s : State) : Prop := s.cfg.valid = true ∧ illegal s = none

/-- INV1 (R36): an unarmed receiver. -/
abbrev State.Inv1 (s : State) : Prop :=
  s.complete = false → s.pcount < 2 →
    s.length = s.pcount.toNat ∧ ∀ i < s.length, s.buf.read i = preamble

/-- INV2 (R37): an armed receiver. -/
abbrev State.Inv2 (s : State) : Prop :=
  s.complete = false → s.pcount = 2 →
    2 ≤ s.length ∧ s.length ≤ s.cfg.maxLen ∧ s.buf.read 0 = preamble ∧ s.buf.read 1 = preamble ∧
      ∀ i < s.length, 2 ≤ i → s.buf.read i ≠ terminator

/-- INV3(a) (R38): a terminator arrived while unarmed. -/
abbrev State.Inv3a (s : State) : Prop :=
  s.length ≤ 1 ∧ ∀ i < s.length, s.buf.read i = preamble

/-- INV3(b) (R38): a frame the receiver assembled. -/
abbrev State.Inv3b (s : State) : Prop :=
  3 ≤ s.length ∧ s.length ≤ s.cfg.maxLen ∧ s.buf.read 0 = preamble ∧ s.buf.read 1 = preamble ∧
    s.buf.read (s.length - 1) = terminator ∧
      ∀ i < s.length - 1, 2 ≤ i → s.buf.read i ≠ terminator

/-- INV3 (R38): a completed frame. The two cases exclude each other by the length. -/
abbrev State.Inv3 (s : State) : Prop :=
  s.complete = true → s.pcount = 0 ∧ (s.Inv3a ∨ s.Inv3b)

/-- INV4 (R39): the transmitter. -/
abbrev State.Inv4 (s : State) : Prop :=
  (s.txbusy = true → s.txlen ∈ [6, 7, 11] ∧ s.txidx < s.txlen) ∧
    (s.txbusy = false → s.txidx ≤ s.txlen)

/-- The transmit shadow holds a frame of R141 in the cells a send would read: its header (30_encoding.md
R66) and its terminator. -/
abbrev State.ShadowFramed (s : State) : Prop :=
  s.txlen ≠ 0 →
    s.txbuf.read 0 = preamble ∧ s.txbuf.read 1 = preamble ∧ s.txbuf.read 2 = s.cfg.rigAddr ∧
      s.txbuf.read 3 = ownAddr ∧ s.txbuf.read (s.txlen - 1) = terminator

/-- The invariant of the block: INV1 to INV4, the ranges and reserved codes of R20, R27, R30 and R33, the
canonical form of both arrays, and the framed shadow. -/
structure State.Inv (s : State) : Prop where
  /-- The configuration is legal (R7). -/
  cfgValid : s.cfg.valid = true
  /-- `pcount` is 0, 1 or 2 (R23). -/
  pcountLegal : s.pcount ≠ 3
  /-- `disp_status` is no reserved code (R27). -/
  dispLegal : s.dispStatus ≤ dispUnrecognized
  /-- `tx_status` is no reserved code (R33). -/
  txStatusLegal : s.txStatus ≠ 3
  /-- `txlen` is "6, 7 or 11 after an ISSUE, and 0 after reset" (R30). -/
  txlenLegal : s.txlen ∈ [0, 6, 7, 11]
  /-- The receive buffer is canonical and lies within its `MAX_LEN` cells (R21). -/
  bufWf : s.buf.wf s.cfg.maxLen
  /-- The transmit shadow is canonical and lies within its 11 cells (R29). -/
  txbufWf : s.txbuf.wf txCapacity
  /-- INV1. -/
  inv1 : s.Inv1
  /-- INV2. -/
  inv2 : s.Inv2
  /-- INV3. -/
  inv3 : s.Inv3
  /-- INV4. -/
  inv4 : s.Inv4
  /-- The framed shadow. -/
  shadow : s.ShadowFramed

/-- The structural check of R123 and R124 passes. -/
abbrev State.WellFramed (s : State) : Prop :=
  s.length ≠ 0 ∧ s.buf.read 0 = 0xFE ∧ s.buf.read 1 = 0xFE ∧ s.buf.read (s.length - 1) = 0xFD

/-- The structural, echo and source checks of R121 pass: the state column of the DISPATCH.* rows. -/
abbrev State.Accepted (s : State) : Prop :=
  s.WellFramed ∧ s.buf.read 2 ≠ s.cfg.echoAddr ∧ s.buf.read 3 = s.cfg.rigAddr

/-- The frequency payload's five cells, whatever the frame's length (R70, R134). -/
abbrev State.payload (s : State) : Payload :=
  ⟨s.buf.read 5, s.buf.read 6, s.buf.read 7, s.buf.read 8, s.buf.read 9⟩

/-- The exact decimal value of a payload (R90, closed form; weights of R91). -/
def Payload.exact (p : Payload) : Nat :=
  (p.p4.toNat / 16) * 10 ^ 9 + (p.p4.toNat % 16) * 10 ^ 8 + (p.p3.toNat / 16) * 10 ^ 7 +
    (p.p3.toNat % 16) * 10 ^ 6 + (p.p2.toNat / 16) * 10 ^ 5 + (p.p2.toNat % 16) * 10 ^ 4 +
    (p.p1.toNat / 16) * 10 ^ 3 + (p.p1.toNat % 16) * 10 ^ 2 + (p.p0.toNat / 16) * 10 +
    p.p0.toNat % 16

/-- Both nibbles of a byte are decimal digits (R98: "one with both nibbles 0 to 9"). -/
abbrev bcdByte (b : Byte) : Prop := b.toNat / 16 ≤ 9 ∧ b.toNat % 16 ≤ 9

/-- Every nibble of a payload is a decimal digit (R97). -/
abbrev Payload.Bcd (p : Payload) : Prop :=
  bcdByte p.p0 ∧ bcdByte p.p1 ∧ bcdByte p.p2 ∧ bcdByte p.p3 ∧ bcdByte p.p4

/-- An operation is one of the four commands (R140). -/
def isIssue : Instr → Bool
  | .issueReqFreq _ | .issueReqMode _ | .issueWriteFreq _ | .issueWriteMode _ => true
  | .reset | .dispatch | .rxByte _ | .txByte _ | .idleTxwait | .idle | .dispatchTransferFreq
  | .dispatchGetFreq | .dispatchTransferMode | .dispatchGetMode | .dispatchSetFreq | .dispatchSetMode
  | .dispatchStatusOk | .dispatchStatusNg | .dispatchStatusCollision | .dispatchOther _ => false

/-- The state column of an operation's row in opcode_table.json (R80, R155). -/
def SelectableIn : Instr → State → Prop
  | .reset, _ => True
  | .dispatch, s => s.complete = true
  | .rxByte _, s => s.complete = false
  | .txByte _, s | .idleTxwait, s => s.complete = false ∧ s.txbusy = true
  | .issueReqFreq _, s | .issueReqMode _, s | .issueWriteFreq _, s | .issueWriteMode _, s
  | .idle, s => s.complete = false ∧ s.txbusy = false
  | .dispatchTransferFreq, s | .dispatchGetFreq, s | .dispatchTransferMode, s | .dispatchGetMode, s
  | .dispatchSetFreq, s | .dispatchSetMode, s | .dispatchStatusOk, s | .dispatchStatusNg, s
  | .dispatchStatusCollision, s | .dispatchOther _, s => s.complete = true ∧ s.Accepted

/-- Whether an outcome is a next state. -/
def completes : Result → Bool
  | .next _ => true
  | .fault _ => false
  | .refused _ => false

/-- The state a next outcome carries. -/
def nextState : Result → Option State
  | .next s => some s
  | .fault _ => none
  | .refused _ => none

/-- `k` steps of the block, stopping at the first fault or refusal. -/
def run : Nat → State → Result
  | 0, s => .next s
  | k + 1, s =>
    match step s with
    | .next t => run k t
    | .fault f => .fault f
    | .refused r => .refused r

/-- The labels of the first `k` steps, in order, up to the first stop (00_scope.md R12). -/
def runLabels : Nat → State → List Label
  | 0, _ => []
  | k + 1, s =>
    match step s with
    | .next t => t.label :: runLabels k t
    | .fault _ => []
    | .refused _ => []

/-- A safe run: `k` steps with no fault and no refusal (R156, R170). -/
def SafeRun (k : Nat) (s : State) : Prop := ∃ t, run k s = .next t

/-- The input word that offers one inbound byte and nothing else (R78, line `RX hh`). -/
def rxWord (b : Byte) : InputWord := (TraceOp.rx b).word

/-- The input word in which the transport writes the presented byte (R78, lines `TX ok` and `TX fail`). -/
def txWord (ok : Bool) : InputWord := (TraceOp.tx ok).word

end Sys2Proof.Machine
end

