-- ==== Sys2Proof/Certificates/Slice0/Obligations.lean ====
section
/-! DEFINITION. The statements for the provers. Each docstring names the rule of spec/ it formalises, or the
log entry it rests on. A statement about an operation that completes gives its whole next state, so that it
also says what the operation leaves unchanged. -/

open Sys2Proof Sys2Proof.Machine

/-! ### The codec (40_codec.md) -/

/-- R96: the round trip, for every 32-bit frequency. -/
def Obligations.DecodeOfEncodeIsIdentity : Prop := ∀ f : Freq, dec (enc f) = f

/-- R97: when a payload survives decoding and encoding; decoding is surjective and not injective. -/
def Obligations.EncodeOfDecodeIsIdentityOnCanonicalPayloads : Prop :=
  (∀ p : Payload, enc (dec p) = p ↔ p.Bcd ∧ p.exact < 2 ^ 32) ∧
  (∀ f : Freq, ∃ p, dec p = f) ∧
  dec ⟨0x0A, 0x00, 0x00, 0x00, 0x00⟩ = 10 ∧ dec ⟨0x10, 0x00, 0x00, 0x00, 0x00⟩ = 10

/-- R90 and R92: the closed form of the decode modulo 2^32, and the examples of both rules. -/
def Obligations.DecodeIsTheDecimalSumModulo32Bits : Prop :=
  (∀ p : Payload, (dec p).toNat = p.exact % 2 ^ 32) ∧
  dec ⟨0x00, 0x00, 0x00, 0x00, 0x00⟩ = 0 ∧
  dec ⟨0x15, 0x73, 0x45, 0x01, 0x00⟩ = 1457315 ∧
  dec ⟨0x96, 0x72, 0x96, 0x94, 0x42⟩ = 0 ∧
  dec ⟨0x99, 0x99, 0x99, 0x99, 0x99⟩ = 1410065407

/-- R94: each payload byte holds its pair of decimal digits, the first digit in the high nibble; the
examples of the rule. -/
def Obligations.EncodePacksDecimalDigitPairs : Prop :=
  (∀ f : Freq,
    (enc f).p0.toNat = 16 * (f.toNat / 10 % 10) + f.toNat % 10 ∧
    (enc f).p1.toNat = 16 * (f.toNat / 10 ^ 3 % 10) + f.toNat / 10 ^ 2 % 10 ∧
    (enc f).p2.toNat = 16 * (f.toNat / 10 ^ 5 % 10) + f.toNat / 10 ^ 4 % 10 ∧
    (enc f).p3.toNat = 16 * (f.toNat / 10 ^ 7 % 10) + f.toNat / 10 ^ 6 % 10 ∧
    (enc f).p4.toNat = 16 * (f.toNat / 10 ^ 9 % 10) + f.toNat / 10 ^ 8 % 10) ∧
  enc 0 = ⟨0x00, 0x00, 0x00, 0x00, 0x00⟩ ∧
  enc 4294967295 = ⟨0x95, 0x72, 0x96, 0x94, 0x42⟩ ∧
  enc 14195000 = ⟨0x00, 0x50, 0x19, 0x14, 0x00⟩

/-- R95 and R98: ten digits always suffice, every nibble is a digit, and no encoded byte is a frame
delimiter or a status code. -/
def Obligations.EncodedBytesAreNeverDelimiters : Prop :=
  (∀ f : Freq, f.toNat < 10 ^ 10 ∧ (enc f).Bcd ∧ (enc f).p4 ≤ 0x42) ∧
  (∀ b : Byte, bcdByte b → b ≤ 0x99 ∧ b ∉ [0xFE, 0xFD, 0xFA, 0xFB, 0xFC]) ∧
  (∀ f : Freq, ∀ b ∈ [(enc f).p0, (enc f).p1, (enc f).p2, (enc f).p3, (enc f).p4],
    b ∉ [0xFE, 0xFD, 0xFA, 0xFB, 0xFC])

/-! ### RX_BYTE (41_receiver.md) -/

/-- R107, R108 and R109, in every sound state: the byte is appended when it is a counted preamble byte or
the receiver is armed and there is room; it overflows when there is none; a terminator that was not
discarded completes the frame. -/
def Obligations.RxByteAppendsOverflowsOrPasses : Prop :=
  ∀ (s : State) (b : Byte), s.Sound → s.buf.wf s.cfg.maxLen → s.complete = false →
    ∃ t, exec (.rxByte b) s = .next t ∧
      t = { s with buf := t.buf, length := t.length, pcount := t.pcount, complete := t.complete,
                   rxLenErr := t.rxLenErr, label := .rx b t.complete t.rxLenErr } ∧
      (if (b = 0xFE ∧ s.pcount < 2) ∨ s.pcount = 2 then
        if s.length < s.cfg.maxLen then
          (∀ a, t.buf.read a = if a = s.length then b else s.buf.read a) ∧ t.length = s.length + 1 ∧
            t.pcount = (if b = 0xFD then 0 else if s.pcount = 2 then 2 else s.pcount + 1) ∧
            t.complete = (b == 0xFD) ∧ t.rxLenErr = false
        else
          (∀ a, t.buf.read a = s.buf.read a) ∧ t.length = 0 ∧ t.pcount = 0 ∧ t.complete = false ∧
            t.rxLenErr = true
      else
        (∀ a, t.buf.read a = s.buf.read a) ∧ t.length = s.length ∧
          t.pcount = (if b = 0xFD then 0 else s.pcount) ∧ t.complete = (b == 0xFD) ∧
          t.rxLenErr = false)

/-- R111: the ten rows of the transition table, in every state of the invariant with no complete frame. -/
def Obligations.RxByteFollowsTheTransitionTable : Prop :=
  ∀ (s : State) (b : Byte), s.Inv → s.complete = false →
    ∃ t, exec (.rxByte b) s = .next t ∧
      let app := (∀ a, t.buf.read a = if a = s.length then b else s.buf.read a) ∧ t.length = s.length + 1
      let same := (∀ a, t.buf.read a = s.buf.read a) ∧ t.length = s.length
      let discard := (∀ a, t.buf.read a = s.buf.read a) ∧ t.length = 0
      (s.pcount = 0 ∧ b = 0xFE → app ∧ t.pcount = 1 ∧ t.complete = false ∧ t.rxLenErr = false) ∧
      (s.pcount = 0 ∧ b = 0xFD → same ∧ t.pcount = 0 ∧ t.complete = true ∧ t.rxLenErr = false) ∧
      (s.pcount = 0 ∧ b ≠ 0xFE ∧ b ≠ 0xFD →
        same ∧ t.pcount = 0 ∧ t.complete = false ∧ t.rxLenErr = false) ∧
      (s.pcount = 1 ∧ b = 0xFE → app ∧ t.pcount = 2 ∧ t.complete = false ∧ t.rxLenErr = false) ∧
      (s.pcount = 1 ∧ b = 0xFD → same ∧ t.pcount = 0 ∧ t.complete = true ∧ t.rxLenErr = false) ∧
      (s.pcount = 1 ∧ b ≠ 0xFE ∧ b ≠ 0xFD →
        same ∧ t.pcount = 1 ∧ t.complete = false ∧ t.rxLenErr = false) ∧
      (s.pcount = 2 ∧ b = 0xFD ∧ s.length < s.cfg.maxLen →
        app ∧ t.pcount = 0 ∧ t.complete = true ∧ t.rxLenErr = false) ∧
      (s.pcount = 2 ∧ b = 0xFD ∧ s.length = s.cfg.maxLen →
        discard ∧ t.pcount = 0 ∧ t.complete = false ∧ t.rxLenErr = true) ∧
      (s.pcount = 2 ∧ b ≠ 0xFD ∧ s.length < s.cfg.maxLen →
        app ∧ t.pcount = 2 ∧ t.complete = false ∧ t.rxLenErr = false) ∧
      (s.pcount = 2 ∧ b ≠ 0xFD ∧ s.length = s.cfg.maxLen →
        discard ∧ t.pcount = 0 ∧ t.complete = false ∧ t.rxLenErr = true)

/-- R115: an armed receiver overflows at exactly the `MAX_LEN - L + 1`-th byte that is no terminator; an
unarmed one never does, and keeps `length = pcount`. -/
def Obligations.ArmedReceiverOverflowsUnarmedNeverDoes : Prop :=
  (∀ (s : State) (bs : List Byte) (rest : List InputWord), s.Inv → s.complete = false → s.pcount = 2 →
    (∀ b ∈ bs, b ≠ 0xFD) → bs.length = s.cfg.maxLen - s.length + 1 →
    s.inputs = bs.map rxWord ++ rest →
    (∀ j < bs.length, ∃ t, run j s = .next t ∧ t.length = s.length + j ∧ t.pcount = 2 ∧
      t.complete = false) ∧
    ∃ t, run bs.length s = .next t ∧ t.length = 0 ∧ t.pcount = 0 ∧ t.complete = false ∧
      t.rxLenErr = true ∧ t.inputs = rest) ∧
  (∀ (s : State) (bs : List Byte) (rest : List InputWord), s.Inv → s.complete = false → s.pcount ≠ 2 →
    (∀ b ∈ bs, b ≠ 0xFE ∧ b ≠ 0xFD) → s.inputs = bs.map rxWord ++ rest →
    ∃ t, run bs.length s = .next t ∧ t.length = s.pcount.toNat ∧ t.pcount = s.pcount ∧
      t.complete = false ∧ (∀ a, t.buf.read a = s.buf.read a) ∧ (bs ≠ [] → t.rxLenErr = false) ∧
      t.inputs = rest)

/-- R116: the source's framing example, from reset under every legal configuration. -/
def Obligations.SourceFramingExampleCompletesAtItsLastByte : Prop :=
  ∀ (cfg : Config) (rest : List InputWord), cfg.valid = true →
    let s := State.resetOf cfg ([0xFE, 0xFE, 0x58, 0xE0, 0x03, 0xFD].map rxWord ++ rest)
    runLabels 6 s = [.rx 0xFE false false, .rx 0xFE false false, .rx 0x58 false false,
      .rx 0xE0 false false, .rx 0x03 false false, .rx 0xFD true false] ∧
    ∃ t, run 6 s = .next t ∧ t.length = 6 ∧ t.pcount = 0 ∧ t.complete = true ∧
      (List.range 6).map t.buf.read = [0xFE, 0xFE, 0x58, 0xE0, 0x03, 0xFD]

/-! ### DISPATCH (42_dispatcher.md) -/

/-- R121 and R133: the whole of DISPATCH, its checks in order and the first that fails deciding. -/
def Obligations.DispatchFollowsItsChecksInOrder : Prop :=
  ∀ s : State, s.Sound → s.complete = true →
    let out : DispOutcome :=
      if s.length = 0 then .framingErr
      else if s.buf.read 0 ≠ 0xFE ∨ s.buf.read 1 ≠ 0xFE ∨ s.buf.read (s.length - 1) ≠ 0xFD then .framingErr
      else if s.buf.read 2 = s.cfg.echoAddr then .echoSkipped
      else if s.buf.read 3 ≠ s.cfg.rigAddr then .framingErr
      else if s.buf.read 4 = s.cfg.cmdTransferFreq ∨ s.buf.read 4 = s.cfg.cmdGetFreq then .okFreq
      else if s.buf.read 4 = s.cfg.cmdTransferMode ∨ s.buf.read 4 = s.cfg.cmdGetMode then .okMode
      else .unrecognized
    let code : BitVec 3 :=
      match out with
      | .okFreq => 1
      | .okMode => 2
      | .framingErr => 3
      | .echoSkipped => 4
      | .unrecognized => 5
    exec .dispatch s = .next
      { s with complete := false, length := 0, dispStatus := code,
               freq := if out = .okFreq then dec s.payload else s.freq,
               mode := if out = .okMode then s.buf.read 5 else s.mode,
               label := .dispatch out (out == .okFreq || out == .okMode) }

/-- R80 and R121: on a frame that passes the checks, the class its command byte selects does what the
whole DISPATCH does. -/
def Obligations.CommandClassDoesWhatDispatchDoes : Prop :=
  ∀ s : State, s.complete = true → s.Accepted →
    exec (decodeCommand s.cfg (s.buf.read 4)) s = exec .dispatch s

/-- R129: the frequency branch, for both of its command classes, for every payload and every length. That the
class is performed whatever byte `frame(4)` holds is the model's choice (log 20). -/
def Obligations.FrequencyClassesStoreTheDecodedPayload : Prop :=
  ∀ (i : Instr) (s : State), i = .dispatchTransferFreq ∨ i = .dispatchGetFreq → s.Sound →
    s.complete = true → s.Accepted →
    exec i s = .next { s with complete := false, length := 0, dispStatus := 1, freq := dec s.payload,
                              label := .dispatch .okFreq true }

/-- R130: the mode branch, for both of its command classes, every byte stored as it is. That the class is
performed whatever byte `frame(4)` holds is the model's choice (log 20). -/
def Obligations.ModeClassesStoreTheirPayloadByte : Prop :=
  ∀ (i : Instr) (s : State), i = .dispatchTransferMode ∨ i = .dispatchGetMode → s.Sound →
    s.complete = true → s.Accepted →
    exec i s = .next { s with complete := false, length := 0, dispStatus := 2, mode := s.buf.read 5,
                              label := .dispatch .okMode true }

/-- R131: the inbound set commands, the status codes and every other byte are unrecognized and write
neither `freq` nor `mode`. That the class is performed whatever byte `frame(4)` holds is the model's choice
(log 20). -/
def Obligations.OtherClassesAreUnrecognizedAndStoreNothing : Prop :=
  ∀ (i : Instr) (s : State),
    i = .dispatchSetFreq ∨ i = .dispatchSetMode ∨ i = .dispatchStatusOk ∨ i = .dispatchStatusNg ∨
      i = .dispatchStatusCollision ∨ (∃ cmd, i = .dispatchOther cmd) → s.Sound →
    s.complete = true → s.Accepted →
    exec i s = .next { s with complete := false, length := 0, dispStatus := 5,
                              label := .dispatch .unrecognized false }

/-- R132: after every path of DISPATCH the receiver is clean and no cell is cleared; also after a command class
asked on an accepted frame with another command byte, which the model performs (log 20). -/
def Obligations.EveryDispatchLeavesACleanReceiver : Prop :=
  ∀ (i : Instr) (s t : State), isDispatch i = true → s.Inv → exec i s = .next t →
    t.length = 0 ∧ t.pcount = 0 ∧ t.complete = false ∧ ∀ a, t.buf.read a = s.buf.read a

/-- R136: our own frame, received back, writes neither `freq` nor `mode` under either echo setting. -/
def Obligations.OwnFrameIsNeverStored : Prop :=
  ∀ s : State, s.Sound → s.complete = true → s.WellFramed → s.buf.read 2 = s.cfg.rigAddr →
    s.buf.read 3 = 0xE0 →
    ∃ t, exec .dispatch s = .next t ∧ t.freq = s.freq ∧ t.mode = s.mode ∧
      (s.cfg.echoAddr = s.cfg.rigAddr → t.dispStatus = 4) ∧ (s.cfg.echoAddr = 0xE0 → t.dispStatus = 3)

/-- R197: under the literal echo configuration a reply addressed to us is discarded, and a frame that is
stored has another destination. -/
def Obligations.LiteralEchoConfigurationDiscardsReplies : Prop :=
  ∀ s : State, s.Sound → s.complete = true → s.cfg.echoAddr = 0xE0 → s.WellFramed →
    ∃ t, exec .dispatch s = .next t ∧
      (s.buf.read 2 = 0xE0 → t.dispStatus = 4 ∧ t.freq = s.freq ∧ t.mode = s.mode) ∧
      (t.dispStatus = 1 ∨ t.dispStatus = 2 → s.buf.read 2 ≠ 0xE0)

/-- R125: with the receiver of 41_receiver.md, DISPATCH reports a framing error only for a frame of length
0 or 1 and for a foreign source address. -/
def Obligations.FramingErrorsOfReceivedFrames : Prop :=
  ∀ s : State, s.Inv → s.complete = true →
    (3 ≤ s.length → s.WellFramed) ∧
    ∃ t, exec .dispatch s = .next t ∧
      (t.dispStatus = 3 ↔
        s.length = 0 ∨ s.length = 1 ∨ (s.buf.read 2 ≠ s.cfg.echoAddr ∧ s.buf.read 3 ≠ s.cfg.rigAddr))

/-- R191: the frequency sentinel is in band: the payload that encodes it is stored with OK_FREQ. -/
def Obligations.StoredFrequencyMayEqualTheSentinel : Prop :=
  ∀ s : State, s.Sound → s.complete = true → s.Accepted →
    s.buf.read 4 = s.cfg.cmdTransferFreq ∨ s.buf.read 4 = s.cfg.cmdGetFreq →
    s.payload = enc s.cfg.freqSentinel →
    ∃ t, exec .dispatch s = .next t ∧ t.freq = s.cfg.freqSentinel ∧ t.dispStatus = 1

/-- R52: only DISPATCH reads the receive buffer, and only the cells 0 to 9 and the last of the frame, all of
them inside the array. The command classes count as DISPATCH, on any accepted frame they are asked of (log 20). -/
def Obligations.OnlyDispatchReadsTheBufferAtItsFixedCells : Prop :=
  (∀ (i : Instr) (s t : State) (m : Memory), isDispatch i = false → exec i s = .next t →
    ∃ n, exec i { s with buf := m } = .next { t with buf := n }) ∧
  (∀ (i : Instr) (s t : State) (m : Memory), isDispatch i = true → exec i s = .next t →
    (∀ a ≤ 9, m.read a = s.buf.read a) → m.read (s.length - 1) = s.buf.read (s.length - 1) →
    exec i { s with buf := m } = .next { t with buf := m }) ∧
  (∀ s : State, s.Sound → (∀ a ≤ 9, a < s.cfg.maxLen) ∧ (1 ≤ s.length → s.length - 1 < s.cfg.maxLen))

/-! ### ISSUE (43_builders.md) -/

/-- R142: ISSUE REQ_FREQ. That the label carries the whole of `cmd_arg`,
which the command ignores, is the model's reading (DEDUCED, log 6) of R140's `ISSUE(op, arg)`. -/
def Obligations.IssueReqFreqBuildsItsFrame : Prop :=
  ∀ (s : State) (arg : BitVec 32), s.Sound → s.txbuf.wf 11 → s.complete = false → s.txbusy = false →
    decodeIssue 0 arg = .issueReqFreq arg ∧
    ∃ m, exec (.issueReqFreq arg) s = .next
        { s with txbuf := m, txlen := 6, txidx := 0, txbusy := true, txStatus := 0,
                 label := .issue .reqFreq arg } ∧
      (List.range 6).map m.read = [0xFE, 0xFE, s.cfg.rigAddr, 0xE0, s.cfg.cmdGetFreq, 0xFD] ∧
      ∀ a, 6 ≤ a → m.read a = s.txbuf.read a

/-- R143: ISSUE REQ_MODE. That the label carries the whole of `cmd_arg`,
which the command ignores, is the model's reading (DEDUCED, log 6) of R140's `ISSUE(op, arg)`. -/
def Obligations.IssueReqModeBuildsItsFrame : Prop :=
  ∀ (s : State) (arg : BitVec 32), s.Sound → s.txbuf.wf 11 → s.complete = false → s.txbusy = false →
    decodeIssue 1 arg = .issueReqMode arg ∧
    ∃ m, exec (.issueReqMode arg) s = .next
        { s with txbuf := m, txlen := 6, txidx := 0, txbusy := true, txStatus := 0,
                 label := .issue .reqMode arg } ∧
      (List.range 6).map m.read = [0xFE, 0xFE, s.cfg.rigAddr, 0xE0, s.cfg.cmdGetMode, 0xFD] ∧
      ∀ a, 6 ≤ a → m.read a = s.txbuf.read a

/-- R144: ISSUE WRITE_FREQ, with the invalidation in the same step. -/
def Obligations.IssueWriteFreqBuildsItsFrameAndInvalidates : Prop :=
  ∀ (s : State) (f : BitVec 32), s.Sound → s.txbuf.wf 11 → s.complete = false → s.txbusy = false →
    decodeIssue 2 f = .issueWriteFreq f ∧
    ∃ m, exec (.issueWriteFreq f) s = .next
        { s with txbuf := m, txlen := 11, txidx := 0, txbusy := true, txStatus := 0,
                 freq := s.cfg.freqSentinel, label := .issue .writeFreq f } ∧
      (List.range 11).map m.read =
        [0xFE, 0xFE, s.cfg.rigAddr, 0xE0, s.cfg.cmdSetFreq, (enc f).p0, (enc f).p1, (enc f).p2,
          (enc f).p3, (enc f).p4, 0xFD] ∧
      ∀ a, 11 ≤ a → m.read a = s.txbuf.read a

/-- R145: ISSUE WRITE_MODE, with the invalidation in the same step. That the label carries the whole of `cmd_arg`,
of which the command uses the low byte, is the model's reading (DEDUCED, log 6) of R140's `ISSUE(op, arg)`. -/
def Obligations.IssueWriteModeBuildsItsFrameAndInvalidates : Prop :=
  ∀ (s : State) (arg : BitVec 32), s.Sound → s.txbuf.wf 11 → s.complete = false → s.txbusy = false →
    decodeIssue 3 arg = .issueWriteMode arg ∧
    ∃ m, exec (.issueWriteMode arg) s = .next
        { s with txbuf := m, txlen := 7, txidx := 0, txbusy := true, txStatus := 0,
                 mode := s.cfg.modeSentinel, label := .issue .writeMode arg } ∧
      (List.range 7).map m.read =
        [0xFE, 0xFE, s.cfg.rigAddr, 0xE0, s.cfg.cmdSetMode, arg.extractLsb' 0 8, 0xFD] ∧
      ∀ a, 7 ≤ a → m.read a = s.txbuf.read a

/-- R100 and R144 (the source's scenario 2, for every frequency): the payload in the shadow decodes to the
written frequency while the stored one is already invalid. -/
def Obligations.WrittenFrequencyDecodesFromTheShadow : Prop :=
  ∀ (s t : State) (f : BitVec 32), s.txbuf.wf 11 → exec (.issueWriteFreq f) s = .next t →
    dec ⟨t.txbuf.read 5, t.txbuf.read 6, t.txbuf.read 7, t.txbuf.read 8, t.txbuf.read 9⟩ = f ∧
      t.freq = s.cfg.freqSentinel

/-- R75: the bits of `cmd_arg` a command ignores change nothing but the label, which carries them (log 6). -/
def Obligations.CommandsIgnoreTheirUnusedOperandBits : Prop :=
  ∀ (s t : State) (a b : BitVec 32),
    (exec (.issueReqFreq a) s = .next t →
      exec (.issueReqFreq b) s = .next { t with label := .issue .reqFreq b }) ∧
    (exec (.issueReqMode a) s = .next t →
      exec (.issueReqMode b) s = .next { t with label := .issue .reqMode b }) ∧
    (exec (.issueWriteMode a) s = .next t → a.extractLsb' 0 8 = b.extractLsb' 0 8 →
      exec (.issueWriteMode b) s = .next { t with label := .issue .writeMode b })

/-! ### TX_BYTE (43_builders.md) -/

/-- R147, R148 and R149: a successful write goes on or ends the send, a failed one aborts it; the receiver
is never touched. -/
def Obligations.TxByteFollowsItsVerdict : Prop :=
  ∀ s : State, s.Sound → s.complete = false → s.txbusy = true → s.txidx < 11 →
    exec (.txByte true) s = .next
      (if s.txidx + 1 = s.txlen then
        { s with txidx := s.txidx + 1, txbusy := false, txStatus := 1,
                 label := .tx (s.txbuf.read s.txidx) true true }
      else { s with txidx := s.txidx + 1, label := .tx (s.txbuf.read s.txidx) true false }) ∧
    exec (.txByte false) s = .next
      { s with txbusy := false, txStatus := 2, label := .tx (s.txbuf.read s.txidx) false true }

/-- The model's choice (log 10): in the unreachable state where a send has passed the last cell of the shadow,
TX_BYTE finds no byte to present (R50) and faults. -/
def Obligations.TxByteOutsideTheShadowFaults : Prop :=
  ∀ (s : State) (ok : Bool), s.Sound → s.complete = false → s.txbusy = true → s.txidx = 11 →
    exec (.txByte ok) s = .fault .txbufIndexOutside

/-- R149, R164 and R166: when the environment acknowledges every byte and offers nothing else, the send
writes the rest of its frame in index order and ends in DONE_OK. -/
def Obligations.AcknowledgedSendWritesItsWholeFrame : Prop :=
  ∀ (s : State) (rest : List InputWord), s.Inv → s.complete = false → s.txbusy = true →
    s.inputs = List.replicate (s.txlen - s.txidx) (txWord true) ++ rest →
    runLabels (s.txlen - s.txidx) s =
      (List.range (s.txlen - s.txidx)).map
        (fun j => .tx (s.txbuf.read (s.txidx + j)) true (s.txidx + j + 1 == s.txlen)) ∧
    ∃ t, run (s.txlen - s.txidx) s = .next t ∧ t.txbusy = false ∧ t.txStatus = 1 ∧
      t.txidx = t.txlen ∧ t.txlen = s.txlen ∧ t.inputs = rest

/-- R164: an environment that never asserts `tx_ack` leaves the send in progress for ever (past the list of
offered words nothing is acknowledged, log 4), and one that offers a byte at every step starves both TX_BYTE
and ISSUE. -/
def Obligations.SendMakesNoProgressWithoutTheEnvironment : Prop :=
  (∀ (k : Nat) (s : State), s.Inv → s.txbusy = true →
    (∀ w ∈ s.inputs, inRst w = false ∧ inTxAck w = false) →
    ∃ t, run k s = .next t ∧ t.txbusy = true ∧ t.txidx = s.txidx) ∧
  (∀ (k : Nat) (s : State), s.Inv → k ≤ s.inputs.length →
    (∀ w ∈ s.inputs, inRst w = false ∧ inRxValid w = true) →
    ∃ t, run k s = .next t ∧ t.txbusy = s.txbusy ∧ t.txidx = s.txidx ∧ t.txlen = s.txlen ∧
      t.txStatus = s.txStatus ∧ t.txbuf = s.txbuf)

/-- R150: TX_BYTE never reads a cell of the shadow at or above `txlen`. -/
def Obligations.TxByteReadsNoCellAboveItsFrame : Prop :=
  ∀ (s t : State) (ok : Bool) (m : Memory), s.Inv → exec (.txByte ok) s = .next t →
    (∀ a < s.txlen, m.read a = s.txbuf.read a) →
    exec (.txByte ok) { s with txbuf := m } = .next { t with txbuf := m }

/-! ### RESET and IDLE -/

/-- R40, by R185: RESET, from any state whatever. The model's own fields `cfg` and `inputs` are no state of
the block and stay (logs 1 and 3). -/
def Obligations.ResetGivesEveryElementItsResetValue : Prop :=
  ∀ s : State, s.cfg.valid = true →
    exec .reset s = .next
      { cfg := s.cfg, inputs := s.inputs, buf := [], length := 0, pcount := 0, complete := false,
        freq := s.cfg.freqSentinel, mode := s.cfg.modeSentinel, dispStatus := 0, rxLenErr := false,
        txbuf := [], txlen := 0, txidx := 0, txbusy := false, txStatus := 0, label := .reset } ∧
    ∀ a, Memory.read [] a = 0x00

/-- R155: both IDLE rows change no state; the label is the model's observation (log 5). -/
def Obligations.IdleChangesNoState : Prop :=
  ∀ s : State, s.Sound → s.complete = false →
    (s.txbusy = false → exec .idle s = .next { s with label := .idle }) ∧
    (s.txbusy = true → exec .idleTxwait s = .next { s with label := .idle })

/-! ### The step (45_scheduler.md) -/

/-- A step runs the instruction the sampled word decodes to, which is well formed; around it the step only
takes the word from the words to come (log 3). The model's choices besides: past the end of these words the
sampled word is 0 (log 4), and an accepted frame selects the row of its class (log 12). -/
def Obligations.StepRunsTheDecodedInstruction : Prop :=
  ∀ (s : State) (i : Instr),
    decodeInput s.cfg (contextOf s) (s.inputs.headD 0) = i →
    i.wellFormed s.cfg = true ∧ step s = exec i { s with inputs := s.inputs.tail }

/-- R155: the priority of the step function, with the whole DISPATCH at its place. The words to come are the
model's form of the sampled inputs (log 3). -/
def Obligations.StepFollowsThePriority : Prop :=
  ∀ (s : State) (w : InputWord) (rest : List InputWord), s.inputs = w :: rest →
    let s0 : State := { s with inputs := rest }
    step s =
      if w.getLsbD 0 then exec .reset s0
      else if s.complete then exec .dispatch s0
      else if w.getLsbD 1 then exec (.rxByte (w.extractLsb' 2 8)) s0
      else if s.txbusy then
        if w.getLsbD 45 then exec (.txByte (w.getLsbD 46)) s0 else exec .idleTxwait s0
      else if w.getLsbD 10 then
        if w.extractLsb' 11 2 = 0 then exec (.issueReqFreq (w.extractLsb' 13 32)) s0
        else if w.extractLsb' 11 2 = 1 then exec (.issueReqMode (w.extractLsb' 13 32)) s0
        else if w.extractLsb' 11 2 = 2 then exec (.issueWriteFreq (w.extractLsb' 13 32)) s0
        else exec (.issueWriteMode (w.extractLsb' 13 32)) s0
      else exec .idle s0

/-- R36 to R39: every step keeps the invariant, from every state that has it. -/
def Obligations.StepKeepsTheInvariant : Prop :=
  ∀ s t : State, s.Inv → step s = .next t → t.Inv

/-- R40 with R36 to R39: the reset state has the invariant under every legal configuration, the one of
`State.reset` among them (the model's choice, log 2). -/
def Obligations.ResetStateHasTheInvariant : Prop :=
  (∀ (cfg : Config) (ws : List InputWord), cfg.valid = true → (State.resetOf cfg ws).Inv) ∧
  State.reset.Inv

/-- R156 and R170: from every state of the invariant, whatever words are offered, every run is safe (past
the end of the offered words the model samples 0, log 4). -/
def Obligations.EveryRunFromTheInvariantIsSafe : Prop := ∀ (s : State) (k : Nat), s.Inv → SafeRun k s

/-- R8: no operation and no step writes a parameter. -/
def Obligations.ConfigurationIsNeverWritten : Prop :=
  (∀ (i : Instr) (s t : State), exec i s = .next t → t.cfg = s.cfg) ∧
  (∀ s t : State, step s = .next t → t.cfg = s.cfg)

/-- R7's five constraints are what a legal configuration is. That every operation, RESET included, and every
step refuses any other is the model's reading (log 8) of R7's "A model refuses a configuration that breaks
one". -/
def Obligations.IllegalConfigurationsAreRefused : Prop :=
  (∀ cfg : Config, cfg.valid = true ↔
    11 ≤ cfg.maxLen ∧
    [cfg.cmdTransferFreq, cfg.cmdTransferMode, cfg.cmdGetFreq, cfg.cmdGetMode, cfg.cmdSetFreq,
      cfg.cmdSetMode].Nodup ∧
    (∀ c ∈ [cfg.cmdTransferFreq, cfg.cmdTransferMode, cfg.cmdGetFreq, cfg.cmdGetMode, cfg.cmdSetFreq,
      cfg.cmdSetMode], c ∉ [(0xFE : Byte), 0xFD, 0xFB, 0xFA, 0xFC]) ∧
    (cfg.echoAddr = cfg.rigAddr ∨ cfg.echoAddr = 0xE0) ∧ cfg.rigAddr ≠ 0xE0) ∧
  (∀ (i : Instr) (s : State), s.cfg.valid = false →
    exec i s = .refused .badConfiguration ∧ step s = .refused .badConfiguration)

/-- I15 and I16, and the model's extension of them to the ranges of R20 (log 9): a reserved code or a count
outside its range is an unreachable state, on which every operation but RESET faults. -/
def Obligations.ReservedCodesAndRangesFault : Prop :=
  ∀ (i : Instr) (s : State), i ≠ .reset → s.cfg.valid = true →
    s.pcount = 3 ∨ 6 ≤ s.dispStatus ∨ s.txStatus = 3 ∨ s.cfg.maxLen < s.length ∨ 11 < s.txlen ∨
      11 < s.txidx →
    ∃ f, exec i s = .fault f

/-- The model's choices (logs 7 and 20), from R78 and R155: in a sound state an operation is refused exactly
where the state column of its row does not hold, and the step never asks for such an operation. The row's match
on the bits is not asked again, so a DISPATCH.* class asked on an accepted frame whose `frame(4)` is another
class's byte is performed, not refused (log 20). -/
def Obligations.OnlySelectableOperationsRun : Prop :=
  (∀ (i : Instr) (s : State), s.Sound →
    (exec i s = .refused .notEnabled ↔ ¬ SelectableIn i s)) ∧
  (∀ s : State, step s ≠ .refused .notEnabled)

/-- R22 to R24: who writes the receiver's counters and flag. The command classes count as DISPATCH, on any
accepted frame they are asked of (log 20). -/
def Obligations.ReceiverElementsHaveTheirWriters : Prop :=
  ∀ (i : Instr) (s t : State), exec i s = .next t → i ≠ .reset → (∀ b, i ≠ .rxByte b) →
    t.buf = s.buf ∧ t.pcount = s.pcount ∧ t.rxLenErr = s.rxLenErr ∧
    (if isDispatch i then t.length = 0 ∧ t.complete = false
      else t.length = s.length ∧ t.complete = s.complete)

/-- R25 and R26: `freq` and `mode` are written only by a DISPATCH that reports so and by the command that
invalidates them. The command classes count as DISPATCH, on any accepted frame they are asked of (log 20). -/
def Obligations.StoreElementsHaveTheirWriters : Prop :=
  ∀ (i : Instr) (s t : State), exec i s = .next t → i ≠ .reset →
    (t.freq = s.freq ∨ (isDispatch i = true ∧ t.dispStatus = 1 ∧ t.freq = dec s.payload) ∨
      (∃ f, i = .issueWriteFreq f ∧ t.freq = s.cfg.freqSentinel)) ∧
    (t.mode = s.mode ∨ (isDispatch i = true ∧ t.dispStatus = 2 ∧ t.mode = s.buf.read 5) ∨
      (∃ m, i = .issueWriteMode m ∧ t.mode = s.cfg.modeSentinel))

/-- R27 and R29 to R33: who writes the dispatcher's status and the transmitter's elements. The command classes
count as DISPATCH, on any accepted frame they are asked of (log 20). -/
def Obligations.StatusAndTransmitterElementsHaveTheirWriters : Prop :=
  ∀ (i : Instr) (s t : State), exec i s = .next t → i ≠ .reset →
    (isDispatch i = false → t.dispStatus = s.dispStatus) ∧
    (isDispatch i = true → t.dispStatus ∈ [(1 : BitVec 3), 2, 3, 4, 5]) ∧
    (isIssue i = false → t.txbuf = s.txbuf ∧ t.txlen = s.txlen) ∧
    (isIssue i = true → t.txlen ∈ [6, 7, 11] ∧ t.txidx = 0 ∧ t.txbusy = true ∧ t.txStatus = 0) ∧
    (isIssue i = false → (∀ ok, i ≠ .txByte ok) →
      t.txidx = s.txidx ∧ t.txbusy = s.txbusy ∧ t.txStatus = s.txStatus)

/-- R159: a byte is consumed exactly where `rx_valid ∧ rx_ready`, and that step is RX_BYTE of it. -/
def Obligations.ReceiveHandshakeIsRxByte : Prop :=
  ∀ (s t : State) (w : InputWord) (rest : List InputWord), s.Inv → s.inputs = w :: rest →
    step s = .next t →
    (rxReady s w = true ↔ inRst w = false ∧ s.complete = false) ∧
    ((∃ b r e, t.label = .rx b r e) ↔ inRxValid w = true ∧ rxReady s w = true) ∧
    (∀ b r e, t.label = .rx b r e → b = inRxData w ∧ r = t.complete ∧ e = t.rxLenErr)

/-- R160: a command is consumed exactly where `cmd_valid ∧ cmd_ready`, and that step is ISSUE. The last
clause, that the label carries the whole of `cmd_arg` whatever bits the command uses, is the model's reading
(DEDUCED, log 6) of R140's `ISSUE(op, arg)`. -/
def Obligations.CommandHandshakeIsIssue : Prop :=
  ∀ (s t : State) (w : InputWord) (rest : List InputWord), s.Inv → s.inputs = w :: rest →
    step s = .next t →
    (cmdReady s w = true ↔
      inRst w = false ∧ s.complete = false ∧ inRxValid w = false ∧ s.txbusy = false) ∧
    ((∃ op arg, t.label = .issue op arg) ↔ inCmdValid w = true ∧ cmdReady s w = true) ∧
    (∀ op arg, t.label = .issue op arg → arg = inCmdArg w)

/-- R161: a byte is written exactly where `tx_valid_o ∧ tx_ack`, and that step is TX_BYTE of the presented
byte with the transport's verdict; an idle transmitter presents 0x00. -/
def Obligations.TransmitHandshakeIsTxByte : Prop :=
  ∀ (s t : State) (w : InputWord) (rest : List InputWord), s.Inv → s.inputs = w :: rest →
    step s = .next t →
    (txValid s w = true ↔
      inRst w = false ∧ s.complete = false ∧ inRxValid w = false ∧ s.txbusy = true) ∧
    txData s = (if s.txbusy then s.txbuf.read s.txidx else 0x00) ∧
    ((∃ b ok d, t.label = .tx b ok d) ↔ txValid s w = true ∧ inTxAck w = true) ∧
    (∀ b ok d, t.label = .tx b ok d → b = txData s ∧ ok = inTxOk w ∧ d = !t.txbusy)

/-- R165: the step after the one that completes a frame, unless it is a reset, is that frame's DISPATCH; no
byte is accepted in between. Where no word is offered any more the model samples 0 (log 4), which is no reset. -/
def Obligations.CompletedFrameIsDispatchedNext : Prop :=
  ∀ s t : State, s.Inv → s.complete = false → step s = .next t → t.complete = true →
    inRst (t.inputs.headD 0) = false →
    rxReady t (t.inputs.headD 0) = false ∧
    step t = exec .dispatch { t with inputs := t.inputs.tail } ∧
    ∃ u o, step t = .next u ∧ u.label = .dispatch o o.returns ∧ u.complete = false ∧ u.buf = t.buf

/-- R167: what may abandon a partly received frame, and what may end a send. -/
def Obligations.NothingElseCancelsAFrameOrASend : Prop :=
  ∀ s t : State, s.Inv → step s = .next t →
    (s.complete = false → s.pcount = 2 → t.complete = false → t.pcount ≠ 2 →
      t.label = .reset ∨ ∃ b, t.label = .rx b false true) ∧
    (t.length < s.length →
      t.label = .reset ∨ (∃ o r, t.label = .dispatch o r) ∨ ∃ b, t.label = .rx b false true) ∧
    (s.txbusy = true → t.txbusy = false →
      t.label = .reset ∨ (∃ b, t.label = .tx b false true) ∨
        ∃ b, t.label = .tx b true true ∧ s.txidx + 1 = s.txlen)

/-- R35: what the host sees does not depend on `buf`, `length`, `pcount`, `txlen` or a cell of `txbuf` that
is not being sent. In a busy state with `txidx` at 11 or above, which no run reaches, the `tx_data_o` it speaks
of is the model's choice (log 10). -/
def Obligations.HostSeesNoHiddenElement : Prop :=
  ∀ (s : State) (w : InputWord) (m : Memory) (n : Nat) (p : BitVec 2) (l : Nat) (x : Memory),
    x.read s.txidx = s.txbuf.read s.txidx →
    outputs { s with buf := m, length := n, pcount := p, txlen := l, txbuf := x } w = outputs s w

/-- R171: the code each event records, in the register of its unit. -/
def Obligations.EventsRecordTheirCodes : Prop :=
  ∀ s : State,
    raise .framingError s = { s with dispStatus := 3 } ∧
    raise .echoSkipped s = { s with dispStatus := 4 } ∧
    raise .unrecognizedCommand s = { s with dispStatus := 5 } ∧
    raise .lengthOverflow s = { s with rxLenErr := true } ∧
    raise .writeFailure s = { s with txStatus := 2 } ∧
    raise .frequencyStored s = { s with dispStatus := 1 } ∧
    raise .modeStored s = { s with dispStatus := 2 } ∧
    raise .sendDone s = { s with txStatus := 1 }

/-! ### Encodings (30_encoding.md) -/

/-- R74 and R80: for every well-formed instruction the decoder reads the encoder's word as that
instruction, and so does the selection of a step in the context of its row. That a step on an accepted frame
selects the row of its class, and the row DISPATCH, which the same word and state also match, only where a check
fails, is the model's choice (log 12); that a command's operand is the whole `cmd_arg` is its reading (log 6). -/
def Obligations.DecodeOfEncodeIsTheInstruction : Prop :=
  ∀ (cfg : Config) (i : Instr), cfg.valid = true → i.wellFormed cfg = true →
    decode cfg (contextFor cfg i) (encode cfg i) = i ∧
    (∀ c, encode cfg i = .command c → decodeInput cfg (contextFor cfg i) 0 = i)

/-- R80 and R156: in every context without an accepted frame exactly one IN47 row of the opcode table matches an
input word, and it is the decoded one (with an accepted frame the row DISPATCH matches and the model's step
takes the row of the class, log 12); exactly one FRAME_CMD row matches a command byte, DISPATCH.OTHER where no
other does. -/
def Obligations.ExactlyOneTableRowMatches : Prop :=
  (∀ (cfg : Config) (c : Context) (w : InputWord), c.accepted = none →
    (inputRows.filter fun r => r.meets c w).map InputRow.mnemonic = [(decodeInput cfg c w).mnemonic]) ∧
  (∀ (cfg : Config) (cmd : Byte), cfg.valid = true →
    ((commandRows cfg).filter fun r => r.2 == cmd).map Prod.fst =
      if decodeCommand cfg cmd = .dispatchOther cmd then [] else [(decodeCommand cfg cmd).mnemonic])

/-- R74: words written out from the spec's field layout decode to the operations they stand for. -/
def Obligations.WordsOfTheSpecDecode : Prop :=
  decodeInput Config.reference ⟨true, true, none⟩ 0x1 = .reset ∧
  decodeInput Config.reference ⟨true, false, none⟩ 0x3FA = .dispatch ∧
  decodeInput Config.reference ⟨false, true, none⟩ 0x6000000003FA = .rxByte 0xFE ∧
  decodeInput Config.reference ⟨false, true, none⟩ 0x600000000000 = .txByte true ∧
  decodeInput Config.reference ⟨false, true, none⟩ 0x200000000000 = .txByte false ∧
  decodeInput Config.reference ⟨false, true, none⟩ 0x400 = .idleTxwait ∧
  decodeInput Config.reference ⟨false, false, none⟩ 0x600000000000 = .idle ∧
  decodeInput Config.reference ⟨false, false, none⟩ 0x400 = .issueReqFreq 0 ∧
  decodeInput Config.reference ⟨false, false, none⟩ 0xC00 = .issueReqMode 0 ∧
  decodeInput Config.reference ⟨false, false, none⟩ 0x1B13271400 = .issueWriteFreq 14195000 ∧
  decodeInput Config.reference ⟨false, false, none⟩ 0x7C00 = .issueWriteMode 0x03 ∧
  decodeCommand Config.reference 0x03 = .dispatchGetFreq ∧
  decodeCommand Config.reference 0xFB = .dispatchStatusOk

/-- R78: at which states each trace line is well formed. That an operand out of
range is a line which the check rejects is the model's choice (log 21). -/
def Obligations.TraceLinesAreWellFormedWhereTheSpecSays : Prop :=
  ∀ s : State,
    TraceOp.reset.wellFormedAt s = true ∧
    (TraceOp.dispatch.wellFormedAt s = true ↔ s.complete = true) ∧
    (∀ b, (TraceOp.rx b).wellFormedAt s = true ↔ s.complete = false) ∧
    (∀ ok, (TraceOp.tx ok).wellFormedAt s = true ↔ s.complete = false ∧ s.txbusy = true) ∧
    (TraceOp.issueReqFreq.wellFormedAt s = true ↔ s.complete = false ∧ s.txbusy = false) ∧
    (TraceOp.issueReqMode.wellFormedAt s = true ↔ s.complete = false ∧ s.txbusy = false) ∧
    (∀ f, (TraceOp.issueWriteFreq f).wellFormedAt s = true ↔
      f < 2 ^ 32 ∧ s.complete = false ∧ s.txbusy = false) ∧
    (∀ m, (TraceOp.issueWriteMode m).wellFormedAt s = true ↔ s.complete = false ∧ s.txbusy = false) ∧
    (TraceOp.idle.wellFormedAt s = true ↔ s.complete = false)
end

