-- ==== Sys2Proof/Laws/Decode.lean ====
section
/-! SUPPORT. The fields of a packed input word, and what the decoder reads from the encoder's words. -/

namespace Sys2Proof

section packInput
variable (txOk txAck : Bool) (arg : BitVec 32) (op : BitVec 2) (cmdValid : Bool) (rxData : Byte)
  (rxValid rst : Bool)

theorem inRst_packInput :
    inRst (packInput txOk txAck arg op cmdValid rxData rxValid rst) = rst := by
  simp [inRst, packInput]

theorem inRxValid_packInput :
    inRxValid (packInput txOk txAck arg op cmdValid rxData rxValid rst) = rxValid := by
  simp [inRxValid, packInput]

theorem inCmdValid_packInput :
    inCmdValid (packInput txOk txAck arg op cmdValid rxData rxValid rst) = cmdValid := by
  simp [inCmdValid, packInput]

theorem inTxAck_packInput :
    inTxAck (packInput txOk txAck arg op cmdValid rxData rxValid rst) = txAck := by
  simp [inTxAck, packInput]

theorem inTxOk_packInput :
    inTxOk (packInput txOk txAck arg op cmdValid rxData rxValid rst) = txOk := by
  simp [inTxOk, packInput]

theorem inRxData_packInput :
    inRxData (packInput txOk txAck arg op cmdValid rxData rxValid rst) = rxData := by
  ext i hi
  interval_cases i <;> simp [inRxData, packInput]

theorem inCmdOp_packInput :
    inCmdOp (packInput txOk txAck arg op cmdValid rxData rxValid rst) = op := by
  ext i hi
  interval_cases i <;> simp [inCmdOp, packInput]

theorem inCmdArg_packInput :
    inCmdArg (packInput txOk txAck arg op cmdValid rxData rxValid rst) = arg := by
  ext i hi
  interval_cases i <;> simp [inCmdArg, packInput]

end packInput

/-! ### The encoder's words, read back -/

/-- An ISSUE's word selects that command in an idle block. -/
theorem decodeInput_encodeIssue (cfg : Config) (a : Option Byte) (op : BitVec 2) (arg : BitVec 32) :
    decodeInput cfg ⟨false, false, a⟩ (encodeIssue op arg) = decodeIssue op arg := by
  simp [decodeInput, encodeIssue, inRst_packInput, inRxValid_packInput, inCmdValid_packInput,
    inCmdOp_packInput, inCmdArg_packInput]

/-- A received byte's word selects RX_BYTE of that byte whenever no frame is complete. -/
theorem decodeInput_rx (cfg : Config) (busy : Bool) (a : Option Byte) (b : Byte) :
    decodeInput cfg ⟨false, busy, a⟩ (packInput false false 0 0 false b true false) = .rxByte b := by
  simp [decodeInput, inRst_packInput, inRxValid_packInput, inRxData_packInput]

/-- An acknowledged write selects TX_BYTE with its verdict while a send is in progress. -/
theorem decodeInput_tx (cfg : Config) (a : Option Byte) (ok : Bool) :
    decodeInput cfg ⟨false, true, a⟩ (packInput ok true 0 0 false 0 false false) = .txByte ok := by
  simp [decodeInput, inRst_packInput, inRxValid_packInput, inTxAck_packInput, inTxOk_packInput]

/-- The reset word selects RESET in every context (R163). -/
theorem decodeInput_reset (cfg : Config) (c : Context) :
    decodeInput cfg c (packInput false false 0 0 false 0 false true) = .reset := by
  simp [decodeInput, inRst_packInput]

end Sys2Proof
end

