-- ==== Sys2Proof/Laws/Memory.lean ====
section
/-! SUPPORT. The laws of the storage arrays: what a read gives after a write, that every write keeps the
canonical form, and that equal contents are equal data. -/

namespace Sys2Proof.Machine

@[simp] theorem Memory.read_nil (i : Nat) : Memory.read [] i = unlistedByte := rfl

theorem Memory.read_cons (c : Host.Cell) (m : Memory) (i : Nat) :
    Memory.read (c :: m) i = if c.1 = i then c.2 else Memory.read m i := rfl

theorem Memory.wf_nil (size : Nat) : Memory.wf size [] := by simp [Memory.wf]

theorem Memory.wf_cons_iff (size : Nat) (c : Host.Cell) (m : Memory) :
    Memory.wf size (c :: m) ↔
      (∀ d ∈ m, c.1 < d.1) ∧ c.1 < size ∧ c.2 ≠ unlistedByte ∧ Memory.wf size m := by
  simp only [Memory.wf, List.pairwise_cons, List.mem_cons, forall_eq_or_imp]
  tauto

/-- A cell below every listed one reads as an unlisted cell. -/
theorem Memory.read_below (m : Memory) (i : Nat) (h : ∀ d ∈ m, i < d.1) : m.read i = unlistedByte := by
  induction m with
  | nil => rfl
  | cons c m ih =>
    have hc := h c (by simp)
    rw [Memory.read_cons, if_neg (by omega)]
    exact ih fun d hd => h d (by simp [hd])

/-- A cell outside the array's size reads as an unlisted cell. -/
theorem Memory.read_outside {size : Nat} {m : Memory} (h : m.wf size) {i : Nat} (hi : size ≤ i) :
    m.read i = unlistedByte := by
  induction m with
  | nil => rfl
  | cons c m ih =>
    obtain ⟨-, hc, -, hm⟩ := (Memory.wf_cons_iff size c m).1 h
    rw [Memory.read_cons, if_neg (by omega)]
    exact ih hm

/-- A read after a write gives the value written there, and every other cell as before. -/
theorem Memory.read_write {size : Nat} {m : Memory} (h : m.wf size) (i : Nat) (v : Byte) (j : Nat) :
    (m.write i v).read j = if j = i then v else m.read j := by
  induction m with
  | nil =>
    by_cases hv : v = unlistedByte <;> by_cases hj : i = j <;>
      simp [Memory.write, Memory.read, hv, hj, eq_comm]
  | cons c m ih =>
    obtain ⟨k, u⟩ := c
    obtain ⟨hlt, -, -, hm⟩ := (Memory.wf_cons_iff size (k, u) m).1 h
    have below : ∀ n, n ≤ k → Memory.read m n = unlistedByte := fun n hn =>
      Memory.read_below m n fun d hd => lt_of_le_of_lt hn (hlt d hd)
    unfold Memory.write
    split
    next hik =>
      split
      next hv =>
        split
        next hj => rw [Memory.read_cons, if_neg (by simp only; omega), below j (by omega), hv]
        next => rfl
      next => rw [Memory.read_cons]; simp only [eq_comm (a := i)]
    next hik =>
      split
      next hik' =>
        subst hik'
        split
        next hv =>
          split
          next hj => rw [hj, below i le_rfl, hv]
          next hj => rw [Memory.read_cons, if_neg (Ne.symm hj)]
        next => simp only [Memory.read_cons, eq_comm (a := i)]; split <;> simp_all
      next hik' =>
        rw [Memory.read_cons, Memory.read_cons, ih hm]
        simp only
        split <;> split <;> first | rfl | omega

theorem Memory.mem_write {m : Memory} {i : Nat} {v : Byte} {d : Host.Cell} (h : d ∈ m.write i v) :
    d ∈ m ∨ (d = (i, v) ∧ v ≠ unlistedByte) := by
  induction m with
  | nil => unfold Memory.write at h; split at h <;> simp_all
  | cons c m ih =>
    obtain ⟨k, u⟩ := c
    unfold Memory.write at h
    split at h
    · split at h <;> simp_all [or_comm]
    · split at h
      · split at h
        · simp_all
        · simp only [List.mem_cons] at h ⊢; tauto
      · simp only [List.mem_cons] at h ⊢
        rcases h with h | h
        · exact .inl (.inl h)
        · rcases ih h with h | h
          · exact .inl (.inr h)
          · exact .inr h

/-- A write inside the array keeps the canonical form. -/
theorem Memory.write_wf {size : Nat} {m : Memory} (h : m.wf size) {i : Nat} (hi : i < size) (v : Byte) :
    (m.write i v).wf size := by
  induction m with
  | nil => unfold Memory.write; split <;> simp_all [Memory.wf]
  | cons c m ih =>
    obtain ⟨k, u⟩ := c
    have hall := h
    obtain ⟨hlt, hk, hu, hm⟩ := (Memory.wf_cons_iff size (k, u) m).1 h
    unfold Memory.write
    split
    next hik =>
      split
      next => exact hall
      next hv =>
        refine (Memory.wf_cons_iff _ _ _).2 ⟨?_, hi, hv, hall⟩
        intro d hd
        rcases List.mem_cons.1 hd with rfl | hd
        · exact hik
        · exact lt_trans hik (hlt d hd)
    next hik =>
      split
      next hik' =>
        split
        next => exact hm
        next hv => exact (Memory.wf_cons_iff _ _ _).2 ⟨fun d hd => hik' ▸ hlt d hd, hi, hv, hm⟩
      next hik' =>
        refine (Memory.wf_cons_iff _ _ _).2 ⟨?_, hk, hu, ih hm⟩
        intro d hd
        rcases Memory.mem_write hd with hd | ⟨rfl, -⟩
        · exact hlt d hd
        · simp only; omega

/-- Writes of consecutive cells inside the array keep the canonical form. -/
theorem Memory.writeFrom_wf {size : Nat} (bs : List Byte) {m : Memory} (h : m.wf size) {i : Nat}
    (hi : i + bs.length ≤ size) : (m.writeFrom i bs).wf size := by
  induction bs generalizing m i with
  | nil => exact h
  | cons b bs ih =>
    rw [List.length_cons] at hi
    exact ih (Memory.write_wf h (by omega) b) (by omega)

/-- A read after writes of consecutive cells inside the array. -/
theorem Memory.read_writeFrom {size : Nat} (bs : List Byte) {m : Memory} (h : m.wf size) {i : Nat}
    (hi : i + bs.length ≤ size) (j : Nat) :
    (m.writeFrom i bs).read j =
      if i ≤ j ∧ j < i + bs.length then bs.getD (j - i) unlistedByte else m.read j := by
  induction bs generalizing m i with
  | nil => rw [if_neg (by simp only [List.length_nil]; omega)]; rfl
  | cons b bs ih =>
    rw [List.length_cons] at hi
    rw [Memory.writeFrom, ih (Memory.write_wf h (by omega) b) (by omega), Memory.read_write h]
    rw [List.length_cons]
    by_cases hj : j = i
    · subst hj
      rw [if_neg (by omega), if_pos rfl, if_pos (by omega), Nat.sub_self]
      rfl
    · by_cases hin : i + 1 ≤ j ∧ j < i + 1 + bs.length
      · rw [if_pos hin, if_pos (by omega), show j - i = (j - (i + 1)) + 1 by omega, List.getD_cons_succ]
      · rw [if_neg hin, if_neg hj, if_neg (by omega)]

/-- Equal contents are equal data. -/
theorem Memory.ext_of_read {size : Nat} {m n : Memory} (hm : m.wf size) (hn : n.wf size)
    (h : ∀ i, m.read i = n.read i) : m = n := by
  induction m generalizing n with
  | nil =>
    cases n with
    | nil => rfl
    | cons d n =>
      obtain ⟨-, -, hd, -⟩ := (Memory.wf_cons_iff size d n).1 hn
      have := h d.1
      rw [Memory.read_cons, if_pos rfl] at this
      exact absurd this.symm hd
  | cons c m ih =>
    obtain ⟨hcm, -, hc, hm'⟩ := (Memory.wf_cons_iff size c m).1 hm
    cases n with
    | nil =>
      have := h c.1
      rw [Memory.read_cons, if_pos rfl] at this
      exact absurd this hc
    | cons d n =>
      obtain ⟨hdn, -, hd, hn'⟩ := (Memory.wf_cons_iff size d n).1 hn
      have hcd : c.1 = d.1 := by
        by_contra hne
        rcases Nat.lt_or_gt_of_ne hne with hlt | hlt
        · have := h c.1
          rw [Memory.read_cons, if_pos rfl, Memory.read_cons, if_neg (by omega),
            Memory.read_below n _ fun e he => lt_trans hlt (hdn e he)] at this
          exact hc this
        · have := h d.1
          rw [Memory.read_cons, if_neg (by omega), Memory.read_cons, if_pos rfl,
            Memory.read_below m _ fun e he => lt_trans hlt (hcm e he)] at this
          exact hd this.symm
      have hv : c.2 = d.2 := by
        have := h c.1
        rwa [Memory.read_cons, if_pos rfl, Memory.read_cons, if_pos hcd.symm] at this
      have hrest : m = n := by
        refine ih hm' hn' fun i => ?_
        by_cases hi : c.1 = i
        · rw [Memory.read_below m i fun e he => hi ▸ hcm e he,
            Memory.read_below n i fun e he => hi ▸ hcd ▸ hdn e he]
        · have := h i
          rwa [Memory.read_cons, if_neg hi, Memory.read_cons, if_neg (hcd ▸ hi)] at this
      rw [Prod.ext hcd hv, hrest]

end Sys2Proof.Machine
end

