-- ==== Sys2Proof/Laws/State.lean ====
section
/-! SUPPORT. What each named update of State.lean leaves in each field, true by definition, so that no proof
unfolds a record update. -/

namespace Sys2Proof.Machine

section setInputs
variable (s : State) (ws : List InputWord)

@[simp] theorem State.setInputs_cfg : (s.setInputs ws).cfg = s.cfg := rfl
@[simp] theorem State.setInputs_inputs : (s.setInputs ws).inputs = ws := rfl
@[simp] theorem State.setInputs_buf : (s.setInputs ws).buf = s.buf := rfl
@[simp] theorem State.setInputs_length : (s.setInputs ws).length = s.length := rfl
@[simp] theorem State.setInputs_pcount : (s.setInputs ws).pcount = s.pcount := rfl
@[simp] theorem State.setInputs_complete : (s.setInputs ws).complete = s.complete := rfl
@[simp] theorem State.setInputs_freq : (s.setInputs ws).freq = s.freq := rfl
@[simp] theorem State.setInputs_mode : (s.setInputs ws).mode = s.mode := rfl
@[simp] theorem State.setInputs_dispStatus : (s.setInputs ws).dispStatus = s.dispStatus := rfl
@[simp] theorem State.setInputs_rxLenErr : (s.setInputs ws).rxLenErr = s.rxLenErr := rfl
@[simp] theorem State.setInputs_txbuf : (s.setInputs ws).txbuf = s.txbuf := rfl
@[simp] theorem State.setInputs_txlen : (s.setInputs ws).txlen = s.txlen := rfl
@[simp] theorem State.setInputs_txidx : (s.setInputs ws).txidx = s.txidx := rfl
@[simp] theorem State.setInputs_txbusy : (s.setInputs ws).txbusy = s.txbusy := rfl
@[simp] theorem State.setInputs_txStatus : (s.setInputs ws).txStatus = s.txStatus := rfl
@[simp] theorem State.setInputs_label : (s.setInputs ws).label = s.label := rfl

end setInputs

section setBuf
variable (s : State) (m : Memory)

@[simp] theorem State.setBuf_cfg : (s.setBuf m).cfg = s.cfg := rfl
@[simp] theorem State.setBuf_inputs : (s.setBuf m).inputs = s.inputs := rfl
@[simp] theorem State.setBuf_buf : (s.setBuf m).buf = m := rfl
@[simp] theorem State.setBuf_length : (s.setBuf m).length = s.length := rfl
@[simp] theorem State.setBuf_pcount : (s.setBuf m).pcount = s.pcount := rfl
@[simp] theorem State.setBuf_complete : (s.setBuf m).complete = s.complete := rfl
@[simp] theorem State.setBuf_freq : (s.setBuf m).freq = s.freq := rfl
@[simp] theorem State.setBuf_mode : (s.setBuf m).mode = s.mode := rfl
@[simp] theorem State.setBuf_dispStatus : (s.setBuf m).dispStatus = s.dispStatus := rfl
@[simp] theorem State.setBuf_rxLenErr : (s.setBuf m).rxLenErr = s.rxLenErr := rfl
@[simp] theorem State.setBuf_txbuf : (s.setBuf m).txbuf = s.txbuf := rfl
@[simp] theorem State.setBuf_txlen : (s.setBuf m).txlen = s.txlen := rfl
@[simp] theorem State.setBuf_txidx : (s.setBuf m).txidx = s.txidx := rfl
@[simp] theorem State.setBuf_txbusy : (s.setBuf m).txbusy = s.txbusy := rfl
@[simp] theorem State.setBuf_txStatus : (s.setBuf m).txStatus = s.txStatus := rfl
@[simp] theorem State.setBuf_label : (s.setBuf m).label = s.label := rfl

end setBuf

section setReceiver
variable (s : State) (n : Nat) (p : BitVec 2) (c : Bool)

@[simp] theorem State.setReceiver_cfg : (s.setReceiver n p c).cfg = s.cfg := rfl
@[simp] theorem State.setReceiver_inputs : (s.setReceiver n p c).inputs = s.inputs := rfl
@[simp] theorem State.setReceiver_buf : (s.setReceiver n p c).buf = s.buf := rfl
@[simp] theorem State.setReceiver_length : (s.setReceiver n p c).length = n := rfl
@[simp] theorem State.setReceiver_pcount : (s.setReceiver n p c).pcount = p := rfl
@[simp] theorem State.setReceiver_complete : (s.setReceiver n p c).complete = c := rfl
@[simp] theorem State.setReceiver_freq : (s.setReceiver n p c).freq = s.freq := rfl
@[simp] theorem State.setReceiver_mode : (s.setReceiver n p c).mode = s.mode := rfl
@[simp] theorem State.setReceiver_dispStatus : (s.setReceiver n p c).dispStatus = s.dispStatus := rfl
@[simp] theorem State.setReceiver_rxLenErr : (s.setReceiver n p c).rxLenErr = s.rxLenErr := rfl
@[simp] theorem State.setReceiver_txbuf : (s.setReceiver n p c).txbuf = s.txbuf := rfl
@[simp] theorem State.setReceiver_txlen : (s.setReceiver n p c).txlen = s.txlen := rfl
@[simp] theorem State.setReceiver_txidx : (s.setReceiver n p c).txidx = s.txidx := rfl
@[simp] theorem State.setReceiver_txbusy : (s.setReceiver n p c).txbusy = s.txbusy := rfl
@[simp] theorem State.setReceiver_txStatus : (s.setReceiver n p c).txStatus = s.txStatus := rfl
@[simp] theorem State.setReceiver_label : (s.setReceiver n p c).label = s.label := rfl

end setReceiver

section setFreq
variable (s : State) (f : Freq)

@[simp] theorem State.setFreq_cfg : (s.setFreq f).cfg = s.cfg := rfl
@[simp] theorem State.setFreq_inputs : (s.setFreq f).inputs = s.inputs := rfl
@[simp] theorem State.setFreq_buf : (s.setFreq f).buf = s.buf := rfl
@[simp] theorem State.setFreq_length : (s.setFreq f).length = s.length := rfl
@[simp] theorem State.setFreq_pcount : (s.setFreq f).pcount = s.pcount := rfl
@[simp] theorem State.setFreq_complete : (s.setFreq f).complete = s.complete := rfl
@[simp] theorem State.setFreq_freq : (s.setFreq f).freq = f := rfl
@[simp] theorem State.setFreq_mode : (s.setFreq f).mode = s.mode := rfl
@[simp] theorem State.setFreq_dispStatus : (s.setFreq f).dispStatus = s.dispStatus := rfl
@[simp] theorem State.setFreq_rxLenErr : (s.setFreq f).rxLenErr = s.rxLenErr := rfl
@[simp] theorem State.setFreq_txbuf : (s.setFreq f).txbuf = s.txbuf := rfl
@[simp] theorem State.setFreq_txlen : (s.setFreq f).txlen = s.txlen := rfl
@[simp] theorem State.setFreq_txidx : (s.setFreq f).txidx = s.txidx := rfl
@[simp] theorem State.setFreq_txbusy : (s.setFreq f).txbusy = s.txbusy := rfl
@[simp] theorem State.setFreq_txStatus : (s.setFreq f).txStatus = s.txStatus := rfl
@[simp] theorem State.setFreq_label : (s.setFreq f).label = s.label := rfl

end setFreq

section setMode
variable (s : State) (m : Byte)

@[simp] theorem State.setMode_cfg : (s.setMode m).cfg = s.cfg := rfl
@[simp] theorem State.setMode_inputs : (s.setMode m).inputs = s.inputs := rfl
@[simp] theorem State.setMode_buf : (s.setMode m).buf = s.buf := rfl
@[simp] theorem State.setMode_length : (s.setMode m).length = s.length := rfl
@[simp] theorem State.setMode_pcount : (s.setMode m).pcount = s.pcount := rfl
@[simp] theorem State.setMode_complete : (s.setMode m).complete = s.complete := rfl
@[simp] theorem State.setMode_freq : (s.setMode m).freq = s.freq := rfl
@[simp] theorem State.setMode_mode : (s.setMode m).mode = m := rfl
@[simp] theorem State.setMode_dispStatus : (s.setMode m).dispStatus = s.dispStatus := rfl
@[simp] theorem State.setMode_rxLenErr : (s.setMode m).rxLenErr = s.rxLenErr := rfl
@[simp] theorem State.setMode_txbuf : (s.setMode m).txbuf = s.txbuf := rfl
@[simp] theorem State.setMode_txlen : (s.setMode m).txlen = s.txlen := rfl
@[simp] theorem State.setMode_txidx : (s.setMode m).txidx = s.txidx := rfl
@[simp] theorem State.setMode_txbusy : (s.setMode m).txbusy = s.txbusy := rfl
@[simp] theorem State.setMode_txStatus : (s.setMode m).txStatus = s.txStatus := rfl
@[simp] theorem State.setMode_label : (s.setMode m).label = s.label := rfl

end setMode

section setDispStatus
variable (s : State) (v : BitVec 3)

@[simp] theorem State.setDispStatus_cfg : (s.setDispStatus v).cfg = s.cfg := rfl
@[simp] theorem State.setDispStatus_inputs : (s.setDispStatus v).inputs = s.inputs := rfl
@[simp] theorem State.setDispStatus_buf : (s.setDispStatus v).buf = s.buf := rfl
@[simp] theorem State.setDispStatus_length : (s.setDispStatus v).length = s.length := rfl
@[simp] theorem State.setDispStatus_pcount : (s.setDispStatus v).pcount = s.pcount := rfl
@[simp] theorem State.setDispStatus_complete : (s.setDispStatus v).complete = s.complete := rfl
@[simp] theorem State.setDispStatus_freq : (s.setDispStatus v).freq = s.freq := rfl
@[simp] theorem State.setDispStatus_mode : (s.setDispStatus v).mode = s.mode := rfl
@[simp] theorem State.setDispStatus_dispStatus : (s.setDispStatus v).dispStatus = v := rfl
@[simp] theorem State.setDispStatus_rxLenErr : (s.setDispStatus v).rxLenErr = s.rxLenErr := rfl
@[simp] theorem State.setDispStatus_txbuf : (s.setDispStatus v).txbuf = s.txbuf := rfl
@[simp] theorem State.setDispStatus_txlen : (s.setDispStatus v).txlen = s.txlen := rfl
@[simp] theorem State.setDispStatus_txidx : (s.setDispStatus v).txidx = s.txidx := rfl
@[simp] theorem State.setDispStatus_txbusy : (s.setDispStatus v).txbusy = s.txbusy := rfl
@[simp] theorem State.setDispStatus_txStatus : (s.setDispStatus v).txStatus = s.txStatus := rfl
@[simp] theorem State.setDispStatus_label : (s.setDispStatus v).label = s.label := rfl

end setDispStatus

section setRxLenErr
variable (s : State) (e : Bool)

@[simp] theorem State.setRxLenErr_cfg : (s.setRxLenErr e).cfg = s.cfg := rfl
@[simp] theorem State.setRxLenErr_inputs : (s.setRxLenErr e).inputs = s.inputs := rfl
@[simp] theorem State.setRxLenErr_buf : (s.setRxLenErr e).buf = s.buf := rfl
@[simp] theorem State.setRxLenErr_length : (s.setRxLenErr e).length = s.length := rfl
@[simp] theorem State.setRxLenErr_pcount : (s.setRxLenErr e).pcount = s.pcount := rfl
@[simp] theorem State.setRxLenErr_complete : (s.setRxLenErr e).complete = s.complete := rfl
@[simp] theorem State.setRxLenErr_freq : (s.setRxLenErr e).freq = s.freq := rfl
@[simp] theorem State.setRxLenErr_mode : (s.setRxLenErr e).mode = s.mode := rfl
@[simp] theorem State.setRxLenErr_dispStatus : (s.setRxLenErr e).dispStatus = s.dispStatus := rfl
@[simp] theorem State.setRxLenErr_rxLenErr : (s.setRxLenErr e).rxLenErr = e := rfl
@[simp] theorem State.setRxLenErr_txbuf : (s.setRxLenErr e).txbuf = s.txbuf := rfl
@[simp] theorem State.setRxLenErr_txlen : (s.setRxLenErr e).txlen = s.txlen := rfl
@[simp] theorem State.setRxLenErr_txidx : (s.setRxLenErr e).txidx = s.txidx := rfl
@[simp] theorem State.setRxLenErr_txbusy : (s.setRxLenErr e).txbusy = s.txbusy := rfl
@[simp] theorem State.setRxLenErr_txStatus : (s.setRxLenErr e).txStatus = s.txStatus := rfl
@[simp] theorem State.setRxLenErr_label : (s.setRxLenErr e).label = s.label := rfl

end setRxLenErr

section setTxbuf
variable (s : State) (m : Memory)

@[simp] theorem State.setTxbuf_cfg : (s.setTxbuf m).cfg = s.cfg := rfl
@[simp] theorem State.setTxbuf_inputs : (s.setTxbuf m).inputs = s.inputs := rfl
@[simp] theorem State.setTxbuf_buf : (s.setTxbuf m).buf = s.buf := rfl
@[simp] theorem State.setTxbuf_length : (s.setTxbuf m).length = s.length := rfl
@[simp] theorem State.setTxbuf_pcount : (s.setTxbuf m).pcount = s.pcount := rfl
@[simp] theorem State.setTxbuf_complete : (s.setTxbuf m).complete = s.complete := rfl
@[simp] theorem State.setTxbuf_freq : (s.setTxbuf m).freq = s.freq := rfl
@[simp] theorem State.setTxbuf_mode : (s.setTxbuf m).mode = s.mode := rfl
@[simp] theorem State.setTxbuf_dispStatus : (s.setTxbuf m).dispStatus = s.dispStatus := rfl
@[simp] theorem State.setTxbuf_rxLenErr : (s.setTxbuf m).rxLenErr = s.rxLenErr := rfl
@[simp] theorem State.setTxbuf_txbuf : (s.setTxbuf m).txbuf = m := rfl
@[simp] theorem State.setTxbuf_txlen : (s.setTxbuf m).txlen = s.txlen := rfl
@[simp] theorem State.setTxbuf_txidx : (s.setTxbuf m).txidx = s.txidx := rfl
@[simp] theorem State.setTxbuf_txbusy : (s.setTxbuf m).txbusy = s.txbusy := rfl
@[simp] theorem State.setTxbuf_txStatus : (s.setTxbuf m).txStatus = s.txStatus := rfl
@[simp] theorem State.setTxbuf_label : (s.setTxbuf m).label = s.label := rfl

end setTxbuf

section setSend
variable (s : State) (n : Nat) (i : Nat) (b : Bool)

@[simp] theorem State.setSend_cfg : (s.setSend n i b).cfg = s.cfg := rfl
@[simp] theorem State.setSend_inputs : (s.setSend n i b).inputs = s.inputs := rfl
@[simp] theorem State.setSend_buf : (s.setSend n i b).buf = s.buf := rfl
@[simp] theorem State.setSend_length : (s.setSend n i b).length = s.length := rfl
@[simp] theorem State.setSend_pcount : (s.setSend n i b).pcount = s.pcount := rfl
@[simp] theorem State.setSend_complete : (s.setSend n i b).complete = s.complete := rfl
@[simp] theorem State.setSend_freq : (s.setSend n i b).freq = s.freq := rfl
@[simp] theorem State.setSend_mode : (s.setSend n i b).mode = s.mode := rfl
@[simp] theorem State.setSend_dispStatus : (s.setSend n i b).dispStatus = s.dispStatus := rfl
@[simp] theorem State.setSend_rxLenErr : (s.setSend n i b).rxLenErr = s.rxLenErr := rfl
@[simp] theorem State.setSend_txbuf : (s.setSend n i b).txbuf = s.txbuf := rfl
@[simp] theorem State.setSend_txlen : (s.setSend n i b).txlen = n := rfl
@[simp] theorem State.setSend_txidx : (s.setSend n i b).txidx = i := rfl
@[simp] theorem State.setSend_txbusy : (s.setSend n i b).txbusy = b := rfl
@[simp] theorem State.setSend_txStatus : (s.setSend n i b).txStatus = s.txStatus := rfl
@[simp] theorem State.setSend_label : (s.setSend n i b).label = s.label := rfl

end setSend

section setTxStatus
variable (s : State) (v : BitVec 2)

@[simp] theorem State.setTxStatus_cfg : (s.setTxStatus v).cfg = s.cfg := rfl
@[simp] theorem State.setTxStatus_inputs : (s.setTxStatus v).inputs = s.inputs := rfl
@[simp] theorem State.setTxStatus_buf : (s.setTxStatus v).buf = s.buf := rfl
@[simp] theorem State.setTxStatus_length : (s.setTxStatus v).length = s.length := rfl
@[simp] theorem State.setTxStatus_pcount : (s.setTxStatus v).pcount = s.pcount := rfl
@[simp] theorem State.setTxStatus_complete : (s.setTxStatus v).complete = s.complete := rfl
@[simp] theorem State.setTxStatus_freq : (s.setTxStatus v).freq = s.freq := rfl
@[simp] theorem State.setTxStatus_mode : (s.setTxStatus v).mode = s.mode := rfl
@[simp] theorem State.setTxStatus_dispStatus : (s.setTxStatus v).dispStatus = s.dispStatus := rfl
@[simp] theorem State.setTxStatus_rxLenErr : (s.setTxStatus v).rxLenErr = s.rxLenErr := rfl
@[simp] theorem State.setTxStatus_txbuf : (s.setTxStatus v).txbuf = s.txbuf := rfl
@[simp] theorem State.setTxStatus_txlen : (s.setTxStatus v).txlen = s.txlen := rfl
@[simp] theorem State.setTxStatus_txidx : (s.setTxStatus v).txidx = s.txidx := rfl
@[simp] theorem State.setTxStatus_txbusy : (s.setTxStatus v).txbusy = s.txbusy := rfl
@[simp] theorem State.setTxStatus_txStatus : (s.setTxStatus v).txStatus = v := rfl
@[simp] theorem State.setTxStatus_label : (s.setTxStatus v).label = s.label := rfl

end setTxStatus

section setLabel
variable (s : State) (l : Label)

@[simp] theorem State.setLabel_cfg : (s.setLabel l).cfg = s.cfg := rfl
@[simp] theorem State.setLabel_inputs : (s.setLabel l).inputs = s.inputs := rfl
@[simp] theorem State.setLabel_buf : (s.setLabel l).buf = s.buf := rfl
@[simp] theorem State.setLabel_length : (s.setLabel l).length = s.length := rfl
@[simp] theorem State.setLabel_pcount : (s.setLabel l).pcount = s.pcount := rfl
@[simp] theorem State.setLabel_complete : (s.setLabel l).complete = s.complete := rfl
@[simp] theorem State.setLabel_freq : (s.setLabel l).freq = s.freq := rfl
@[simp] theorem State.setLabel_mode : (s.setLabel l).mode = s.mode := rfl
@[simp] theorem State.setLabel_dispStatus : (s.setLabel l).dispStatus = s.dispStatus := rfl
@[simp] theorem State.setLabel_rxLenErr : (s.setLabel l).rxLenErr = s.rxLenErr := rfl
@[simp] theorem State.setLabel_txbuf : (s.setLabel l).txbuf = s.txbuf := rfl
@[simp] theorem State.setLabel_txlen : (s.setLabel l).txlen = s.txlen := rfl
@[simp] theorem State.setLabel_txidx : (s.setLabel l).txidx = s.txidx := rfl
@[simp] theorem State.setLabel_txbusy : (s.setLabel l).txbusy = s.txbusy := rfl
@[simp] theorem State.setLabel_txStatus : (s.setLabel l).txStatus = s.txStatus := rfl
@[simp] theorem State.setLabel_label : (s.setLabel l).label = l := rfl

end setLabel

end Sys2Proof.Machine
end

