-- ==== Sys2Proof/Laws/Ops.lean ====
section
/-! SUPPORT. What each shared operation can do, said once: recording an event, performing an operation, and
the bodies of DISPATCH, RX_BYTE, ISSUE and TX_BYTE as one record update each. -/

namespace Sys2Proof.Machine

/-! ### Performing an operation -/

/-- A next state comes only from a sound state in which the operation is enabled. -/
theorem perform_eq_next_iff (en : Bool) (s : State) (k : Result) (t : State) :
    perform en s k = .next t ↔ s.Sound ∧ en = true ∧ k = .next t := by
  unfold perform State.Sound
  cases s.cfg.valid <;> cases illegal s <;> cases en <;> simp

/-- In a sound state an enabled operation has its effect. -/
theorem perform_of_enabled {en : Bool} {s : State} (hs : s.Sound) (he : en = true) (k : Result) :
    perform en s k = k := by
  simp [perform, hs.1, hs.2, he]

/-- In a sound state an operation that is not enabled is refused. -/
theorem perform_of_disabled {en : Bool} {s : State} (hs : s.Sound) (he : en = false) (k : Result) :
    perform en s k = .refused .notEnabled := by
  simp [perform, hs.1, hs.2, he]

/-- Under an illegal configuration every operation is refused (R7). -/
theorem perform_of_badConfiguration {s : State} (h : s.cfg.valid = false) (en : Bool) (k : Result) :
    perform en s k = .refused .badConfiguration := by
  simp [perform, h]

/-- In a state that the spec calls unreachable every operation but RESET faults. -/
theorem perform_of_illegal {s : State} {f : Fault} (h : s.cfg.valid = true) (hf : illegal s = some f)
    (en : Bool) (k : Result) : perform en s k = .fault f := by
  simp [perform, h, hf]

/-- When the spec calls a state legal: no reserved code, every count in its range. -/
theorem illegal_eq_none_iff (s : State) :
    illegal s = none ↔ s.pcount ≠ 3 ∧ s.dispStatus ≤ dispUnrecognized ∧ s.txStatus ≠ 3 ∧
      s.length ≤ s.cfg.maxLen ∧ s.txlen ≤ txCapacity ∧ s.txidx ≤ txCapacity := by
  unfold illegal
  repeat' split
  all_goals simp_all

/-! ### Events -/

@[simp] theorem raise_cfg (e : Event) (s : State) : (raise e s).cfg = s.cfg := by cases e <;> rfl
@[simp] theorem raise_inputs (e : Event) (s : State) : (raise e s).inputs = s.inputs := by
  cases e <;> rfl
@[simp] theorem raise_buf (e : Event) (s : State) : (raise e s).buf = s.buf := by cases e <;> rfl
@[simp] theorem raise_length (e : Event) (s : State) : (raise e s).length = s.length := by
  cases e <;> rfl
@[simp] theorem raise_pcount (e : Event) (s : State) : (raise e s).pcount = s.pcount := by
  cases e <;> rfl
@[simp] theorem raise_complete (e : Event) (s : State) : (raise e s).complete = s.complete := by
  cases e <;> rfl
@[simp] theorem raise_freq (e : Event) (s : State) : (raise e s).freq = s.freq := by cases e <;> rfl
@[simp] theorem raise_mode (e : Event) (s : State) : (raise e s).mode = s.mode := by cases e <;> rfl
@[simp] theorem raise_txbuf (e : Event) (s : State) : (raise e s).txbuf = s.txbuf := by cases e <;> rfl
@[simp] theorem raise_txlen (e : Event) (s : State) : (raise e s).txlen = s.txlen := by cases e <;> rfl
@[simp] theorem raise_txidx (e : Event) (s : State) : (raise e s).txidx = s.txidx := by cases e <;> rfl
@[simp] theorem raise_txbusy (e : Event) (s : State) : (raise e s).txbusy = s.txbusy := by
  cases e <;> rfl
@[simp] theorem raise_label (e : Event) (s : State) : (raise e s).label = s.label := by cases e <;> rfl

/-- The event of an outcome records the outcome's code and nothing else (R171). -/
theorem raise_outcome_event (o : DispOutcome) (s : State) :
    raise o.event s = { s with dispStatus := o.code } := by
  cases o <;> rfl

/-! ### The bodies of the operations -/

/-- RESET leaves the state of R40, under the same configuration and with the same words to come. -/
theorem resetElements_eq (s : State) : resetElements s = State.resetOf s.cfg s.inputs := rfl

/-- What every path of DISPATCH writes besides `freq` and `mode` (R122, R132, R133). -/
theorem endDispatch_eq (o : DispOutcome) (s : State) :
    endDispatch o s =
      { s with dispStatus := o.code, length := 0, complete := false, label := .dispatch o o.returns } := by
  cases o <;> rfl

/-- The outcome DISPATCH finds, by the order of its checks (R121). -/
theorem dispatchFrame_cases (s : State) :
    (structureOk s = false ∧ dispatchFrame s = endDispatch .framingErr s) ∨
    (structureOk s = true ∧ isEcho s = true ∧ dispatchFrame s = endDispatch .echoSkipped s) ∨
    (structureOk s = true ∧ isEcho s = false ∧ fromRig s = false ∧
      dispatchFrame s = endDispatch .framingErr s) ∨
    (frameAccepted s = true ∧
      (((frameCmd s = s.cfg.cmdTransferFreq ∨ frameCmd s = s.cfg.cmdGetFreq) ∧
          dispatchFrame s = storeFrequency s) ∨
        ((frameCmd s ≠ s.cfg.cmdTransferFreq ∧ frameCmd s ≠ s.cfg.cmdGetFreq) ∧
          (frameCmd s = s.cfg.cmdTransferMode ∨ frameCmd s = s.cfg.cmdGetMode) ∧
          dispatchFrame s = storeMode s) ∨
        ((frameCmd s ≠ s.cfg.cmdTransferFreq ∧ frameCmd s ≠ s.cfg.cmdGetFreq) ∧
          (frameCmd s ≠ s.cfg.cmdTransferMode ∧ frameCmd s ≠ s.cfg.cmdGetMode) ∧
          dispatchFrame s = leaveUnrecognized s))) := by
  have hok : structureOk s = true ↔ ¬ s.length = 0 ∧
      ¬ (frame s 0 ≠ preamble ∨ frame s 1 ≠ preamble ∨ frame s (s.length - 1) ≠ terminator) := by
    simp only [structureOk, Bool.and_eq_true, bne_iff_ne, beq_iff_eq, ne_eq, not_or, not_not, and_assoc]
  have hacc : frameAccepted s = (structureOk s && !isEcho s && fromRig s) := rfl
  unfold dispatchFrame
  by_cases h0 : s.length = 0
  · exact .inl ⟨by rw [← Bool.not_eq_true, hok]; exact fun h => h.1 h0, if_pos h0⟩
  rw [if_neg h0]
  by_cases h1 : frame s 0 ≠ preamble ∨ frame s 1 ≠ preamble ∨ frame s (s.length - 1) ≠ terminator
  · exact .inl ⟨by rw [← Bool.not_eq_true, hok]; exact fun h => h.2 h1, if_pos h1⟩
  rw [if_neg h1]
  have ok : structureOk s = true := hok.2 ⟨h0, h1⟩
  by_cases h2 : frameDst s = s.cfg.echoAddr
  · exact .inr (.inl ⟨ok, beq_iff_eq.2 h2, if_pos h2⟩)
  rw [if_neg h2]
  have noEcho : isEcho s = false := beq_eq_false_iff_ne.2 h2
  by_cases h3 : frameSrc s = s.cfg.rigAddr
  · have acc : frameAccepted s = true := by
      rw [hacc, ok, noEcho, show fromRig s = true from beq_iff_eq.2 h3]; rfl
    rw [if_neg (not_not.2 h3)]
    refine .inr (.inr (.inr ⟨acc, ?_⟩))
    by_cases h4 : frameCmd s = s.cfg.cmdTransferFreq ∨ frameCmd s = s.cfg.cmdGetFreq
    · exact .inl ⟨h4, if_pos h4⟩
    rw [if_neg h4]
    by_cases h5 : frameCmd s = s.cfg.cmdTransferMode ∨ frameCmd s = s.cfg.cmdGetMode
    · exact .inr (.inl ⟨not_or.1 h4, h5, if_pos h5⟩)
    · exact .inr (.inr ⟨not_or.1 h4, not_or.1 h5, if_neg h5⟩)
  · rw [if_pos h3]
    exact .inr (.inr (.inl ⟨ok, noEcho, beq_eq_false_iff_ne.2 h3, rfl⟩))

/-- The start of a send, as one update (R140). -/
theorem startSend_eq (f : List Byte) (s : State) :
    startSend f s =
      { s with txbuf := s.txbuf.writeFrom 0 f, txlen := f.length, txidx := 0, txbusy := true,
               txStatus := txNone } := rfl

/-- ISSUE but for the invalidation, as one update (R140). -/
theorem issue_eq (op : CmdOp) (arg : BitVec 32) (s : State) :
    issue op arg s =
      { s with txbuf := s.txbuf.writeFrom 0 (buildFrame s.cfg op arg),
               txlen := (buildFrame s.cfg op arg).length, txidx := 0, txbusy := true,
               txStatus := txNone, label := .issue op arg } := rfl

/-- The lengths of the four frames (R141). -/
theorem buildFrame_length (cfg : Config) (op : CmdOp) (arg : BitVec 32) :
    (buildFrame cfg op arg).length =
      match op with
      | .reqFreq => 6
      | .reqMode => 6
      | .writeFreq => 11
      | .writeMode => 7 := by
  cases op <;> rfl

/-- Every frame fits the shadow (R29). -/
theorem buildFrame_length_le (cfg : Config) (op : CmdOp) (arg : BitVec 32) :
    (buildFrame cfg op arg).length ≤ txCapacity := by
  cases op <;> simp [buildFrame, outboundFrame, freqPayload, txCapacity]

/-- RX_BYTE takes its byte into the frame when it is a counted preamble byte or the receiver is armed
(R106, steps 1 and 2). -/
def taken (b : Byte) (s : State) : Prop := (b = preamble ∧ s.pcount < 2) ∨ s.pcount = 2

theorem appendStep_not_taken {b : Byte} {s : State} (h : ¬ taken b s) :
    appendStep b s = (s, false) := by
  have h := not_or.1 h
  simp only [appendStep, if_neg h.1, if_neg h.2]

theorem appendStep_overflow {b : Byte} {s : State} (h : taken b s) (hl : s.cfg.maxLen ≤ s.length) :
    appendStep b s =
      ({ s with pcount := if b = preamble ∧ s.pcount < 2 then s.pcount + 1 else s.pcount }, true) := by
  have ha : append b s = (s, true) := if_neg (by omega)
  by_cases h1 : b = preamble ∧ s.pcount < 2
  · simp only [appendStep, if_pos h1, ha]; rfl
  · simp only [appendStep, if_neg h1, if_pos (h.resolve_left h1), ha]

theorem appendStep_append {b : Byte} {s : State} (h : taken b s) (hl : s.length < s.cfg.maxLen) :
    appendStep b s =
      ({ s with buf := s.buf.write s.length b, length := s.length + 1,
                pcount := if b = preamble ∧ s.pcount < 2 then s.pcount + 1 else s.pcount }, false) := by
  have ha : append b s =
      ({ s with buf := s.buf.write s.length b, length := s.length + 1 }, false) := if_pos hl
  by_cases h1 : b = preamble ∧ s.pcount < 2
  · simp only [appendStep, if_pos h1, ha]; rfl
  · simp only [appendStep, if_neg h1, if_pos (h.resolve_left h1), ha]

/-- RX_BYTE as one update: the byte is not taken, or it overflows, or it is appended (R106 to R110). -/
theorem receive_cases (b : Byte) (s : State) :
    (¬ taken b s ∧ receive b s =
      { s with pcount := if b = terminator then 0 else s.pcount,
               complete := if b = terminator then true else s.complete,
               rxLenErr := false,
               label := .rx b (if b = terminator then true else s.complete) false }) ∨
    (taken b s ∧ s.cfg.maxLen ≤ s.length ∧ receive b s =
      { s with length := 0, pcount := 0, complete := false, rxLenErr := true,
               label := .rx b false true }) ∨
    (taken b s ∧ s.length < s.cfg.maxLen ∧ receive b s =
      { s with buf := s.buf.write s.length b, length := s.length + 1,
               pcount := if b = terminator then 0
                 else if b = preamble ∧ s.pcount < 2 then s.pcount + 1 else s.pcount,
               complete := if b = terminator then true else s.complete,
               rxLenErr := false,
               label := .rx b (if b = terminator then true else s.complete) false }) := by
  by_cases h : taken b s
  · by_cases hl : s.length < s.cfg.maxLen
    · refine .inr (.inr ⟨h, hl, ?_⟩)
      unfold receive
      rw [appendStep_append h hl]
      by_cases hb : b = terminator <;> simp only [hb, terminatorStep, overflowStep, if_true, if_false] <;> rfl
    · refine .inr (.inl ⟨h, by omega, ?_⟩)
      unfold receive
      rw [appendStep_overflow h (by omega)]
      by_cases hb : b = terminator <;> simp only [hb, terminatorStep, overflowStep, if_true, if_false] <;> rfl
  · refine .inl ⟨h, ?_⟩
    unfold receive
    rw [appendStep_not_taken h]
    by_cases hb : b = terminator <;> simp only [hb, terminatorStep, overflowStep, if_true, if_false] <;> rfl

/-- TX_BYTE as one update: it reads an existing cell, and the write succeeds, ends the send, or fails
(R147 to R149). -/
theorem transmit_eq_next_iff (ok : Bool) (s t : State) :
    transmit ok s = .next t ↔ s.txidx < txCapacity ∧
      ((ok = true ∧ s.txidx + 1 = s.txlen ∧ t =
        { s with txidx := s.txidx + 1, txbusy := false, txStatus := txDoneOk,
                 label := .tx (s.txbuf.read s.txidx) true true }) ∨
       (ok = true ∧ s.txidx + 1 ≠ s.txlen ∧ t =
        { s with txidx := s.txidx + 1, label := .tx (s.txbuf.read s.txidx) true !s.txbusy }) ∨
       (ok = false ∧ t =
        { s with txbusy := false, txStatus := txWriteFail,
                 label := .tx (s.txbuf.read s.txidx) false true })) := by
  unfold transmit presentedByte
  by_cases hi : s.txidx < txCapacity
  · cases ok
    · simp [hi, writeFailed, raise, State.setSend, State.setTxStatus, State.setLabel, eq_comm]
    · by_cases hl : s.txidx + 1 = s.txlen <;>
        simp [hi, hl, written, raise, State.setSend, State.setTxStatus, State.setLabel, eq_comm]
  · simp [hi]

/-- Sampling the input word changes nothing but the words still to come. -/
theorem afterSample_eq (s : State) : afterSample s = { s with inputs := s.inputs.tail } := rfl

theorem illegal_afterSample (s : State) : illegal (afterSample s) = illegal s := rfl

theorem sound_afterSample {s : State} (h : s.Sound) : (afterSample s).Sound := h

end Sys2Proof.Machine
end

