-- ==== Sys2Proof/Laws/Meanings.lean ====
section
/-! SUPPORT. What an operation and a step can do when they answer a next state, said once over all
instructions, and what the selection of an operation gives. -/

namespace Sys2Proof.Machine

/-- Everything that is not RESET answers a next state only in a sound state. -/
theorem exec_eq_next_sound {i : Instr} {s t : State} (h : exec i s = .next t) (hi : i ≠ .reset) :
    s.Sound := by
  cases i
  case reset => exact absurd rfl hi
  all_goals exact ((perform_eq_next_iff _ _ _ _).1 h).1

/-- Every next state of every operation, by the operation's body. -/
theorem exec_eq_next_cases {i : Instr} {s t : State} (h : exec i s = .next t) :
    (i = .reset ∧ s.cfg.valid = true ∧ t = State.resetOf s.cfg s.inputs) ∨
    s.Sound ∧
      ((i = .dispatch ∧ s.complete = true ∧ t = dispatchFrame s) ∨
       ((i = .dispatchTransferFreq ∨ i = .dispatchGetFreq) ∧ s.complete = true ∧
          frameAccepted s = true ∧ t = storeFrequency s) ∨
       ((i = .dispatchTransferMode ∨ i = .dispatchGetMode) ∧ s.complete = true ∧
          frameAccepted s = true ∧ t = storeMode s) ∨
       ((i = .dispatchSetFreq ∨ i = .dispatchSetMode ∨ i = .dispatchStatusOk ∨ i = .dispatchStatusNg ∨
            i = .dispatchStatusCollision ∨ ∃ cmd, i = .dispatchOther cmd) ∧ s.complete = true ∧
          frameAccepted s = true ∧ t = leaveUnrecognized s) ∨
       (∃ b, i = .rxByte b ∧ s.complete = false ∧ t = receive b s) ∨
       (∃ ok, i = .txByte ok ∧ s.complete = false ∧ s.txbusy = true ∧ transmit ok s = .next t) ∨
       (∃ arg, i = .issueReqFreq arg ∧ s.complete = false ∧ s.txbusy = false ∧ t = issue .reqFreq arg s) ∨
       (∃ arg, i = .issueReqMode arg ∧ s.complete = false ∧ s.txbusy = false ∧ t = issue .reqMode arg s) ∨
       (∃ arg, i = .issueWriteFreq arg ∧ s.complete = false ∧ s.txbusy = false ∧
          t = (issue .writeFreq arg s).setFreq s.cfg.freqSentinel) ∨
       (∃ arg, i = .issueWriteMode arg ∧ s.complete = false ∧ s.txbusy = false ∧
          t = (issue .writeMode arg s).setMode s.cfg.modeSentinel) ∨
       (i = .idleTxwait ∧ s.complete = false ∧ s.txbusy = true ∧ t = s.setLabel .idle) ∨
       (i = .idle ∧ s.complete = false ∧ s.txbusy = false ∧ t = s.setLabel .idle)) := by
  by_cases hi : i = .reset
  · subst hi
    left
    change (if s.cfg.valid then Host.Outcome.next (resetElements s)
      else Host.Outcome.refused Refusal.badConfiguration) = .next t at h
    split at h
    next hv => exact ⟨rfl, hv, (Host.Outcome.next.inj h).symm⟩
    next => cases h
  · refine .inr ⟨exec_eq_next_sound h hi, ?_⟩
    cases i
    case reset => exact absurd rfl hi
    all_goals
      obtain ⟨-, hen, hk⟩ := (perform_eq_next_iff _ _ _ _).1 h
      try simp only [classEnabled, issueEnabled, Bool.and_eq_true, Bool.not_eq_true'] at hen
    case txByte ok => simp [hen.1, hen.2, hk]
    all_goals
      obtain rfl := Host.Outcome.next.inj hk
      simp [hen]

/-- A step is the selected operation in the state after the word is sampled (R155). -/
theorem step_eq (s : State) : step s = exec (selected s) (afterSample s) := rfl

/-- The selected operation by the priority of R155. -/
theorem selected_cases (s : State) :
    (inRst (sampledWord s) = true ∧ selected s = .reset) ∨
    (inRst (sampledWord s) = false ∧
      ((s.complete = true ∧ frameAccepted s = true ∧ selected s = decodeCommand s.cfg (frameCmd s)) ∨
       (s.complete = true ∧ frameAccepted s = false ∧ selected s = .dispatch) ∨
       (s.complete = false ∧ inRxValid (sampledWord s) = true ∧
          selected s = .rxByte (inRxData (sampledWord s))) ∨
       (s.complete = false ∧ inRxValid (sampledWord s) = false ∧ s.txbusy = true ∧
          inTxAck (sampledWord s) = true ∧ selected s = .txByte (inTxOk (sampledWord s))) ∨
       (s.complete = false ∧ inRxValid (sampledWord s) = false ∧ s.txbusy = true ∧
          inTxAck (sampledWord s) = false ∧ selected s = .idleTxwait) ∨
       (s.complete = false ∧ inRxValid (sampledWord s) = false ∧ s.txbusy = false ∧
          inCmdValid (sampledWord s) = true ∧
          selected s = decodeIssue (inCmdOp (sampledWord s)) (inCmdArg (sampledWord s))) ∨
       (s.complete = false ∧ inRxValid (sampledWord s) = false ∧ s.txbusy = false ∧
          inCmdValid (sampledWord s) = false ∧ selected s = .idle))) := by
  unfold selected decodeInput contextOf
  cases inRst (sampledWord s) <;> cases s.complete <;> cases frameAccepted s <;>
    cases inRxValid (sampledWord s) <;> cases s.txbusy <;> cases inTxAck (sampledWord s) <;>
    cases inCmdValid (sampledWord s) <;> simp

end Sys2Proof.Machine
end

