-- ==== Sys2Proof/Laws/PerInstr.lean ====
section
/-! SUPPORT. Statements for all instructions, one lemma per constructor of Instr. -/

namespace Sys2Proof.Laws.EncodesItsRow

/-- The word of an instruction is the one its row of opcode_table.json matches: an input word with the
row's fixed bits (R80), or the command byte of the row's parameter; DISPATCH.OTHER keeps its own byte. -/
def Statement (i : Instr) : Prop :=
  ∀ cfg : Config,
    match encode cfg i with
    | .input w => ∃ r ∈ inputRows, r.mnemonic = i.mnemonic ∧ w &&& r.mask = r.value
    | .command c => (i.mnemonic, c) ∈ commandRows cfg ∨ i = .dispatchOther c

theorem reset : Statement .reset := by
  intro cfg
  refine ⟨⟨"RESET", 0x1, 0x1, none, none⟩, by simp [inputRows], rfl, ?_⟩
  decide

theorem dispatch : Statement .dispatch := by
  intro cfg
  exact ⟨⟨"DISPATCH", 0x1, 0x0, some true, none⟩, by simp [inputRows], rfl, by decide⟩

theorem rxByte (b : Byte) : Statement (.rxByte b) := by
  intro cfg
  refine ⟨⟨"RX_BYTE", 0x3, 0x2, some false, none⟩, by simp [inputRows], rfl, ?_⟩
  revert b
  decide

theorem txByte (ok : Bool) : Statement (.txByte ok) := by
  intro cfg
  refine ⟨⟨"TX_BYTE", 0x200000000003, 0x200000000000, some false, some true⟩, by simp [inputRows], rfl, ?_⟩
  revert ok
  decide

/-- The operand of an ISSUE lies outside the mask of its row. -/
theorem encodeIssue_mask (op : BitVec 2) (arg : BitVec 32) :
    encodeIssue op arg &&& 0x1C03#47 = 0x400#47 ||| op.zeroExtend 47 <<< 11 := by
  have harg : arg.zeroExtend 47 <<< 13 &&& 0x1C03#47 = 0#47 := by
    ext i hi
    interval_cases i <;> simp
  have hrest : ∀ op : BitVec 2, encodeIssue op 0 &&& 0x1C03#47 = 0x400#47 ||| op.zeroExtend 47 <<< 11 := by
    decide
  have hsplit : encodeIssue op arg = encodeIssue op 0 ||| arg.zeroExtend 47 <<< 13 := by
    have hack : (BitVec.ofBool false).zeroExtend 47 <<< 45 = 0#47 := by decide
    have hok : (BitVec.ofBool false).zeroExtend 47 <<< 46 = 0#47 := by decide
    have hzero : (0 : BitVec 32).zeroExtend 47 <<< 13 = 0#47 := by decide
    simp only [encodeIssue, packInput, hack, hok, hzero, BitVec.or_zero]
  have hdistrib : ∀ x y z : InputWord, (x ||| y) &&& z = (x &&& z) ||| (y &&& z) := by
    intro x y z
    ext i hi
    simp [Bool.and_or_distrib_right]
  rw [hsplit, hdistrib, harg, hrest, BitVec.or_zero]

theorem issueReqFreq (arg : BitVec 32) : Statement (.issueReqFreq arg) := by
  intro cfg
  exact ⟨⟨"ISSUE_REQ_FREQ", 0x1C03, 0x400, some false, some false⟩, by simp [inputRows], rfl,
    encodeIssue_mask 0 arg⟩

theorem issueReqMode (arg : BitVec 32) : Statement (.issueReqMode arg) := by
  intro cfg
  exact ⟨⟨"ISSUE_REQ_MODE", 0x1C03, 0xC00, some false, some false⟩, by simp [inputRows], rfl,
    encodeIssue_mask 1 arg⟩

theorem issueWriteFreq (arg : BitVec 32) : Statement (.issueWriteFreq arg) := by
  intro cfg
  exact ⟨⟨"ISSUE_WRITE_FREQ", 0x1C03, 0x1400, some false, some false⟩, by simp [inputRows], rfl,
    encodeIssue_mask 2 arg⟩

theorem issueWriteMode (arg : BitVec 32) : Statement (.issueWriteMode arg) := by
  intro cfg
  exact ⟨⟨"ISSUE_WRITE_MODE", 0x1C03, 0x1C00, some false, some false⟩, by simp [inputRows], rfl,
    encodeIssue_mask 3 arg⟩

theorem idleTxwait : Statement .idleTxwait := by
  intro cfg
  exact ⟨⟨"IDLE.TXWAIT", 0x200000000003, 0x0, some false, some true⟩, by simp [inputRows], rfl, by decide⟩

theorem idle : Statement .idle := by
  intro cfg
  exact ⟨⟨"IDLE", 0x403, 0x0, some false, some false⟩, by simp [inputRows], rfl, by decide⟩

theorem dispatchTransferFreq : Statement .dispatchTransferFreq :=
  fun cfg => .inl (by simp [Instr.mnemonic, commandRows])

theorem dispatchGetFreq : Statement .dispatchGetFreq :=
  fun cfg => .inl (by simp [Instr.mnemonic, commandRows])

theorem dispatchTransferMode : Statement .dispatchTransferMode :=
  fun cfg => .inl (by simp [Instr.mnemonic, commandRows])

theorem dispatchGetMode : Statement .dispatchGetMode :=
  fun cfg => .inl (by simp [Instr.mnemonic, commandRows])

theorem dispatchSetFreq : Statement .dispatchSetFreq :=
  fun cfg => .inl (by simp [Instr.mnemonic, commandRows])

theorem dispatchSetMode : Statement .dispatchSetMode :=
  fun cfg => .inl (by simp [Instr.mnemonic, commandRows])

theorem dispatchStatusOk : Statement .dispatchStatusOk :=
  fun cfg => .inl (by simp [Instr.mnemonic, commandRows])

theorem dispatchStatusNg : Statement .dispatchStatusNg :=
  fun cfg => .inl (by simp [Instr.mnemonic, commandRows])

theorem dispatchStatusCollision : Statement .dispatchStatusCollision :=
  fun cfg => .inl (by simp [Instr.mnemonic, commandRows])

theorem dispatchOther (cmd : Byte) : Statement (.dispatchOther cmd) := fun _ => .inr rfl

end Sys2Proof.Laws.EncodesItsRow
end

