-- ==== Sys2Proof/Tests/Slice0.lean ====
section
/-! SUPPORT. The model's own tests: ill-formed terms refused, words written out from the encodings of
30_encoding.md, one-step tests whose expected values are the vectors of 95_test_vectors.md, and a witness for
the hypotheses of each statement of Certificates/Slice0/Obligations.lean. -/

namespace Sys2Proof.Tests

open Sys2Proof Sys2Proof.Machine

/-! ### Small states and configurations -/

/-- The reference configuration with the least `MAX_LEN` (R7(a)). -/
def tiny : Config := { Config.reference with maxLen := 11 }

/-- The literal echo configuration (R126, V-DISP-24). -/
def literal : Config := { Config.reference with echoAddr := 0xE0 }

/-- The reset state with these bytes in the receive buffer, and these counters. -/
def held (cfg : Config) (f : List Byte) (p : BitVec 2) (c : Bool) : State :=
  ((State.resetOf cfg []).setBuf (Memory.writeFrom [] 0 f)).setReceiver f.length p c

/-- The reset state with this frame received and complete. -/
def framed (cfg : Config) (f : List Byte) : State := held cfg f 0 true

/-- A receiver armed with `n` bytes of a frame. -/
def armed (cfg : Config) (n : Nat) : State := held cfg ([0xFE, 0xFE] ++ List.replicate (n - 2) 0x11) 2 false

/-- The reset state with a send in progress at this index. -/
def sending (op : CmdOp) (arg : BitVec 32) (i : Nat) : State :=
  let s := startSend (buildFrame Config.reference op arg) State.reset
  s.setSend s.txlen i true

/-- The state a step reaches. -/
def after (w : InputWord) (s : State) : Option State := nextState (step (s.setInputs [w]))

/-- The reply to REQ_FREQ of V-DISP-2. -/
def freqReply : List Byte := [0xFE, 0xFE, 0xE0, 0x58, 0x03, 0x00, 0x50, 0x19, 0x14, 0x00, 0xFD]

/-- The mode frame of V-DISP-8. -/
def modeFrame : List Byte := [0xFE, 0xFE, 0xE0, 0x58, 0x01, 0x07, 0xFD]

/-- A frame with this command byte and no payload. -/
def bare (cmd : Byte) : List Byte := [0xFE, 0xFE, 0xE0, 0x58, cmd, 0xFD]

/-- The clauses of the invariant, checked one by one. -/
def invHolds (s : State) : Bool :=
  decide (s.cfg.valid = true) && decide (s.pcount ≠ 3) && decide (s.dispStatus ≤ dispUnrecognized) &&
    decide (s.txStatus ≠ 3) && decide (s.txlen ∈ [0, 6, 7, 11]) && decide (s.buf.wf s.cfg.maxLen) &&
    decide (s.txbuf.wf txCapacity) && decide s.Inv1 && decide s.Inv2 && decide s.Inv3 && decide s.Inv4 &&
    decide s.ShadowFramed

theorem inv_of {s : State} (h : invHolds s = true) : s.Inv := by
  simp only [invHolds, Bool.and_eq_true, decide_eq_true_eq] at h
  obtain ⟨⟨⟨⟨⟨⟨⟨⟨⟨⟨⟨h1, h2⟩, h3⟩, h4⟩, h5⟩, h6⟩, h7⟩, h8⟩, h9⟩, h10⟩, h11⟩, h12⟩ := h
  exact ⟨h1, h2, h3, h4, h5, h6, h7, h8, h9, h10, h11, h12⟩

/-! ### Ill-formed terms (00_scope.md R7, 30_encoding.md R80) -/

/-- R7(a). -/
theorem test_shortBuffer_refused : Config.valid { Config.reference with maxLen := 10 } = false := by decide
/-- R7(b). -/
theorem test_equalCodes_refused : Config.valid { Config.reference with cmdSetMode := 0x03 } = false := by
  decide
/-- R7(c). -/
theorem test_delimiterCode_refused : Config.valid { Config.reference with cmdGetFreq := 0xFB } = false := by
  decide
/-- R7(d). -/
theorem test_foreignEcho_refused : Config.valid { Config.reference with echoAddr := 0x00 } = false := by decide
/-- R7(e). -/
theorem test_equalAddresses_refused :
    Config.valid { Config.reference with rigAddr := 0xE0, echoAddr := 0xE0 } = false := by decide
/-- Each of the three configurations of the tests is legal. -/
theorem test_configurations_accepted :
    Config.reference.valid = true ∧ tiny.valid = true ∧ literal.valid = true := by decide
/-- DISPATCH.OTHER does not stand for a byte of a named row. -/
theorem test_otherOfNamedCommand_refused :
    (Instr.dispatchOther 0x03).wellFormed Config.reference = false ∧
      (Instr.dispatchOther 0xFA).wellFormed Config.reference = false ∧
      (Instr.dispatchOther 0x02).wellFormed Config.reference = true := by decide

/-! ### Decoding: words written out from R74, R69 and the table of section 6 of 95_test_vectors.md -/

/-- `IN[0] = 1`, with every other bit set too (V-SCH-1). -/
theorem test_decode_reset :
    decodeInput Config.reference ⟨true, true, some 0x03⟩ 0x7FFFFFFFFFFF = .reset := by decide
/-- V-SCH-2, on a frame whose checks fail. -/
theorem test_decode_dispatch :
    decodeInput Config.reference ⟨true, true, none⟩ 0b0000000000000000000000000000000000000001111111010 =
      .dispatch := by decide
/-- `IN[1] = 1`, `IN[9:2] = FE`, with `tx_ack` and `tx_ok` (V-SCH-3). -/
theorem test_decode_rxByte :
    decodeInput Config.reference ⟨false, true, none⟩ 0b11000000000000000000000000000000000001111111010 =
      .rxByte 0xFE := by decide
/-- `IN[45] = 1` and `IN[46]` the verdict (V-SCH-4). -/
theorem test_decode_txByte :
    decodeInput Config.reference ⟨false, true, none⟩ 0x600000000000 = .txByte true ∧
      decodeInput Config.reference ⟨false, true, none⟩ 0x200000000000 = .txByte false := by decide
/-- `cmd_op = 00`, `cmd_arg` all ones, which is ignored but kept. -/
theorem test_decode_issueReqFreq :
    decodeInput Config.reference ⟨false, false, none⟩ 0x1FFFFFFFE400 = .issueReqFreq 0xFFFFFFFF := by decide
/-- `cmd_op = 01`. -/
theorem test_decode_issueReqMode :
    decodeInput Config.reference ⟨false, false, none⟩ 0xC00 = .issueReqMode 0 := by decide
/-- `cmd_op = 10`, `cmd_arg = 14195000`. -/
theorem test_decode_issueWriteFreq :
    decodeInput Config.reference ⟨false, false, none⟩ 0x1B13271400 = .issueWriteFreq 14195000 := by decide
/-- `cmd_op = 11`, `cmd_arg = 3`. -/
theorem test_decode_issueWriteMode :
    decodeInput Config.reference ⟨false, false, none⟩ 0x7C00 = .issueWriteMode 0x03 := by decide
/-- A command offered during a send waits (V-SCH-5). -/
theorem test_decode_idleTxwait :
    decodeInput Config.reference ⟨false, true, none⟩ 0x400 = .idleTxwait := by decide
/-- An acknowledgement without a send is ignored (V-SCH-8). -/
theorem test_decode_idle :
    decodeInput Config.reference ⟨false, false, none⟩ 0x600000000000 = .idle := by decide
/-- R69, with the reference codes. -/
theorem test_decode_commands :
    [0x00, 0x03, 0x01, 0x04, 0x05, 0x06, 0xFB, 0xFA, 0xFC, 0x02].map (decodeCommand Config.reference) =
      [.dispatchTransferFreq, .dispatchGetFreq, .dispatchTransferMode, .dispatchGetMode, .dispatchSetFreq,
        .dispatchSetMode, .dispatchStatusOk, .dispatchStatusNg, .dispatchStatusCollision,
        .dispatchOther 0x02] := by decide
/-- Bits that are no word of their format are refused by name. -/
theorem test_decodeBits_refused :
    (decodeBits Config.reference ⟨false, false, none⟩ .in47 (2 ^ 47)).toOption = none ∧
      (decodeBits Config.reference ⟨true, false, some 0⟩ .frameCmd 256).toOption = none := by decide
/-- A table word placed for the host's step (log 13). -/
theorem test_withFetchWord :
    decodeTableWord 16 0x400 = some (.issueReqFreq 0) ∧
      selected (State.reset.withFetchWord 16 0x400) = .issueReqFreq 0 ∧
      decodeTableWord 8 0x05 = some .dispatchSetFreq ∧
      selected (State.reset.withFetchWord 8 0x05) = .dispatchSetFreq := by decide

/-! ### The codec (V-CODEC) -/

/-- V-CODEC-5. -/
theorem test_dec_nibbleOrder : dec ⟨0x12, 0x34, 0x56, 0x78, 0x90⟩ = 488628820 := by decide
/-- V-CODEC-1. -/
theorem test_enc_digitPairs : enc 123456789 = ⟨0x89, 0x67, 0x45, 0x23, 0x01⟩ := by decide

/-! ### One step of each instruction -/

/-- V-RST-3: a completed frame is discarded undispatched. -/
theorem test_reset_discardsFrame :
    (after 0x1 (framed Config.reference freqReply)).map (fun t =>
      (t.label, t.complete, t.dispStatus, t.buf.read 0, t.freq)) =
      some (.reset, false, 0, 0x00, 0xFFFFFFFF) := by decide
/-- V-RST-2: a send is aborted with no report. -/
theorem test_reset_abortsSend :
    (after 0x6000000003FB (sending .reqFreq 0 1)).map (fun t => (t.txbusy, t.txStatus, t.txlen, t.txidx)) =
      some (false, 0, 0, 0) := by decide
/-- V-DISP-11: the echo is tested before the source. -/
theorem test_dispatch_echoBeforeSource :
    (after 0x3FA (framed Config.reference
      [0xFE, 0xFE, 0x58, 0x12, 0x03, 0x00, 0x50, 0x19, 0x14, 0x00, 0xFD])).map (fun t =>
      (t.label, t.dispStatus, t.freq, t.length)) = some (.dispatch .echoSkipped false, 4, 0xFFFFFFFF, 0) := by
  decide
/-- V-DISP-20: a frame of one stored byte. -/
theorem test_dispatch_shortFrame :
    (after 0x0 (framed Config.reference [0xFE])).map (fun t => (t.dispStatus, t.complete)) =
      some (3, false) := by decide
/-- V-RX-12: the terminator is the overflowing byte. -/
theorem test_rxByte_overflowingTerminator :
    (after 0x3F6 (armed Config.reference 16)).map (fun t => (t.length, t.pcount, t.complete, t.rxLenErr)) =
      some (0, 0, false, true) := by decide
/-- V-RX-7: a preamble byte is data in an armed receiver. -/
theorem test_rxByte_preambleAsData :
    (after 0x3FA (held Config.reference [0xFE, 0xFE, 0x58] 2 false)).map (fun t =>
      (t.length, t.pcount, t.buf.read 3, t.complete)) = some (4, 2, 0xFE, false) := by decide
/-- V-TX-2: the last byte of REQ_MODE. -/
theorem test_txByte_lastByte :
    (after 0x600000000000 (sending .reqMode 0 5)).map (fun t => (t.txidx, t.txbusy, t.txStatus, t.label)) =
      some (6, false, 1, .tx 0xFD true true) := by decide
/-- V-TX-3: the byte at index 2 fails. -/
theorem test_txByte_failure :
    (after 0x200000000000 (sending .writeFreq 14195000 2)).map (fun t =>
      (t.txidx, t.txbusy, t.txStatus, t.label)) = some (2, false, 2, .tx 0x58 false true) := by decide
/-- V-TX-8: the cells above the new frame keep the earlier frame's bytes. -/
theorem test_issueReqFreq_staleCells :
    (after 0x400 ((sending .writeFreq 14195000 11).setSend 11 11 false)).map (fun t =>
      (t.txlen, t.txidx, t.txbusy, (List.range 11).map t.txbuf.read)) =
      some (6, 0, true, [0xFE, 0xFE, 0x58, 0xE0, 0x03, 0xFD, 0x50, 0x19, 0x14, 0x00, 0xFD]) := by decide
/-- V-TX-1. -/
theorem test_issueReqMode :
    (after 0xC00 State.reset).map (fun t => (t.txlen, (List.range 6).map t.txbuf.read)) =
      some (6, [0xFE, 0xFE, 0x58, 0xE0, 0x04, 0xFD]) := by decide
/-- V-SRC-6. -/
theorem test_issueWriteFreq :
    (after 0x1B13271400 (State.reset.setFreq 7074000)).map (fun t =>
      (t.txlen, (List.range 11).map t.txbuf.read, t.freq, t.mode)) =
      some (11, [0xFE, 0xFE, 0x58, 0xE0, 0x05, 0x00, 0x50, 0x19, 0x14, 0x00, 0xFD], 0xFFFFFFFF, 0xFF) := by
  decide
/-- V-TX-1. -/
theorem test_issueWriteMode :
    (after 0x7C00 ((State.reset.setFreq 7074000).setMode 0x01)).map (fun t =>
      (t.txlen, (List.range 7).map t.txbuf.read, t.freq, t.mode)) =
      some (7, [0xFE, 0xFE, 0x58, 0xE0, 0x06, 0x03, 0xFD], 7074000, 0xFF) := by decide
/-- V-TX-6: a command offered while busy is not taken. -/
theorem test_idleTxwait :
    (after 0x1B13271400 (sending .reqFreq 0 3)).map (fun t => (t.label, t.txlen, t.txidx, t.txbusy)) =
      some (.idle, 6, 3, true) := by decide
/-- V-SCH-8. -/
theorem test_idle :
    (after 0x600000000000 State.reset).map (fun t => (t.label, t.txidx, t.txbusy)) =
      some (.idle, 0, false) := by decide
/-- V-DISP-3. -/
theorem test_dispatchTransferFreq :
    selected (framed Config.reference
      [0xFE, 0xFE, 0x00, 0x58, 0x00, 0x00, 0x40, 0x07, 0x07, 0x00, 0xFD]) = .dispatchTransferFreq ∧
    (after 0x0 (framed Config.reference
      [0xFE, 0xFE, 0x00, 0x58, 0x00, 0x00, 0x40, 0x07, 0x07, 0x00, 0xFD])).map (fun t =>
      (t.dispStatus, t.freq, t.mode)) = some (1, 7074000, 0xFF) := by decide
/-- V-DISP-23: a short frame decodes its own terminator and the cells after it. -/
theorem test_dispatchGetFreq_shortFrame :
    selected (framed Config.reference (bare 0x03)) = .dispatchGetFreq ∧
    (after 0x0 (framed Config.reference (bare 0x03))).map (fun t => (t.dispStatus, t.freq)) =
      some (1, 163) := by decide
/-- V-DISP-8. -/
theorem test_dispatchTransferMode :
    selected (framed Config.reference modeFrame) = .dispatchTransferMode ∧
    (after 0x0 (framed Config.reference modeFrame)).map (fun t => (t.dispStatus, t.freq, t.mode)) =
      some (2, 0xFFFFFFFF, 0x07) := by decide
/-- V-DISP-7: the filter byte is ignored. -/
theorem test_dispatchGetMode :
    selected (framed Config.reference [0xFE, 0xFE, 0xE0, 0x58, 0x04, 0x05, 0x01, 0xFD]) = .dispatchGetMode ∧
    (after 0x0 (framed Config.reference [0xFE, 0xFE, 0xE0, 0x58, 0x04, 0x05, 0x01, 0xFD])).map (fun t =>
      (t.label, t.mode)) = some (.dispatch .okMode true, 0x05) := by decide
/-- V-DISP-16. -/
theorem test_dispatchSetFreq :
    (after 0x0 (framed Config.reference
      [0xFE, 0xFE, 0xE0, 0x58, 0x05, 0x00, 0x50, 0x19, 0x14, 0x00, 0xFD])).map (fun t =>
      (t.label, t.dispStatus, t.freq)) = some (.dispatch .unrecognized false, 5, 0xFFFFFFFF) := by decide
/-- V-DISP-17. -/
theorem test_dispatchSetMode :
    (after 0x0 (framed Config.reference [0xFE, 0xFE, 0xE0, 0x58, 0x06, 0x03, 0xFD])).map (fun t =>
      (t.dispStatus, t.mode)) = some (5, 0xFF) := by decide
/-- V-SRC-7. -/
theorem test_dispatchStatusOk :
    (after 0x0 (((framed Config.reference (bare 0xFB)).setFreq 14195000).setMode 0x01)).map (fun t =>
      (t.dispStatus, t.freq, t.mode)) = some (5, 14195000, 0x01) := by decide
/-- V-DISP-14. -/
theorem test_dispatchStatusNg :
    (after 0x0 (framed Config.reference (bare 0xFA))).map (fun t => (t.dispStatus, t.complete, t.freq)) =
      some (5, false, 0xFFFFFFFF) := by decide
/-- V-DISP-15. -/
theorem test_dispatchStatusCollision :
    (after 0x0 (framed Config.reference (bare 0xFC))).map (fun t => (t.dispStatus, t.length, t.mode)) =
      some (5, 0, 0xFF) := by decide
/-- V-DISP-18. -/
theorem test_dispatchOther :
    (after 0x0 (framed Config.reference (bare 0x02))).map (fun t => (t.dispStatus, t.freq, t.mode)) =
      some (5, 0xFFFFFFFF, 0xFF) := by decide

/-! ### The trace syntax (R78, R79) and the outputs (R158) -/

/-- Lines of text, and a line's input word. -/
theorem test_parseLine :
    parseLine "RX FE ; echo".toList = some (.op (.rx 0xFE)) ∧
      parseLine "start: ISSUE WRITE_FREQ 14195000".toList = some (.op (.issueWriteFreq 14195000)) ∧
      parseLine "TX maybe".toList = none ∧
      (TraceOp.issueWriteFreq 14195000).word = 0x1B13271400 := by decide
/-- A line is well formed only where its operation is selected; the checker names the first that is not. -/
theorem test_checkProgram_rejects :
    (match checkProgram 1 [.op .reset, .op (.tx true)] State.reset with
      | .accepted _ => 0
      | .rejected n => n) = 2 := by decide
/-- V-SCH-8: an idle transmitter presents 0x00; V-SCH-5: a send presents its byte. -/
theorem test_outputs :
    ((outputs State.reset 0x600000000000).txValid, (outputs State.reset 0x600000000000).txData) =
        (false, 0x00) ∧
      ((outputs (sending .reqFreq 0 2) 0x400).txValid, (outputs (sending .reqFreq 0 2) 0x400).txData,
        (outputs (sending .reqFreq 0 2) 0x400).cmdReady) = (true, 0x58, false) := by decide
/-- Duty (b): a command that changes before it is taken breaks the duties (R157). -/
theorem test_obeysDuties :
    obeysDuties [0x400, 0x400] (sending .reqFreq 0 3) = true ∧
      obeysDuties [0x400, 0xC00] (sending .reqFreq 0 3) = false := by decide

/-! ### Witnesses: a state and operands that meet the hypotheses of each statement

For a statement of several clauses, one witness for each, at a boundary of its range. -/

/-- The reset states, and a state of each unit at work, have the invariant. -/
theorem reset_inv (cfg : Config) (h : cfg = Config.reference ∨ cfg = tiny ∨ cfg = literal) :
    (State.resetOf cfg []).Inv := by
  rcases h with rfl | rfl | rfl <;> exact inv_of (by decide)

theorem witness_EncodeOfDecodeIsIdentityOnCanonicalPayloads :
    (⟨0x95, 0x72, 0x96, 0x94, 0x42⟩ : Payload).Bcd ∧
      (⟨0x95, 0x72, 0x96, 0x94, 0x42⟩ : Payload).exact = 2 ^ 32 - 1 := by decide

theorem witness_EncodedBytesAreNeverDelimiters :
    bcdByte 0x99 ∧ (0x95 : Byte) ∈ [(enc 4294967295).p0, (enc 4294967295).p1] := by decide

theorem witness_RxByteAppendsOverflowsOrPasses :
    ((State.resetOf tiny []).Sound ∧ (State.resetOf tiny []).buf.wf tiny.maxLen ∧
        (State.resetOf tiny []).complete = false ∧ (State.resetOf tiny []).pcount < 2) ∧
      ((armed tiny 10).Sound ∧ (armed tiny 10).buf.wf tiny.maxLen ∧ (armed tiny 10).complete = false ∧
        (armed tiny 10).pcount = 2 ∧ (armed tiny 10).length < tiny.maxLen) ∧
      ((armed tiny 11).Sound ∧ (armed tiny 11).buf.wf tiny.maxLen ∧ (armed tiny 11).complete = false ∧
        (armed tiny 11).pcount = 2 ∧ (armed tiny 11).length = tiny.maxLen) := by decide

/-- The rows with `pcount = 0`, for every byte. -/
theorem witness_RxByteFollowsTheTransitionTable_rows1to3 :
    (State.resetOf tiny []).Inv ∧ (State.resetOf tiny []).complete = false ∧
      (State.resetOf tiny []).pcount = 0 := ⟨inv_of (by decide), rfl, rfl⟩

/-- The rows with `pcount = 1`. -/
theorem witness_RxByteFollowsTheTransitionTable_rows4to6 :
    (held tiny [0xFE] 1 false).Inv ∧ (held tiny [0xFE] 1 false).complete = false ∧
      (held tiny [0xFE] 1 false).pcount = 1 := ⟨inv_of (by decide), rfl, rfl⟩

/-- The rows with `pcount = 2` and room for one byte. -/
theorem witness_RxByteFollowsTheTransitionTable_rows7and9 :
    (armed tiny 10).Inv ∧ (armed tiny 10).complete = false ∧ (armed tiny 10).pcount = 2 ∧
      (armed tiny 10).length + 1 = (armed tiny 10).cfg.maxLen := ⟨inv_of (by decide), rfl, rfl, rfl⟩

/-- The rows with `pcount = 2` and no room. -/
theorem witness_RxByteFollowsTheTransitionTable_rows8and10 :
    (armed tiny 11).Inv ∧ (armed tiny 11).complete = false ∧ (armed tiny 11).pcount = 2 ∧
      (armed tiny 11).length = (armed tiny 11).cfg.maxLen := ⟨inv_of (by decide), rfl, rfl, rfl⟩

/-- A full buffer, which the next byte overflows, and an empty frame body, which ten bytes overflow. -/
theorem witness_ArmedReceiverOverflowsUnarmedNeverDoes_armed :
    (((armed tiny 11).setInputs [rxWord 0x11]).Inv ∧
        [(0x11 : Byte)].length = tiny.maxLen - (armed tiny 11).length + 1 ∧
        ((armed tiny 11).setInputs [rxWord 0x11]).inputs = [(0x11 : Byte)].map rxWord ++ []) ∧
      (((armed tiny 2).setInputs ((List.replicate 10 0x11).map rxWord)).Inv ∧
        (List.replicate 10 (0x11 : Byte)).length = tiny.maxLen - (armed tiny 2).length + 1 ∧
        (∀ b ∈ List.replicate 10 (0x11 : Byte), b ≠ 0xFD)) := by
  refine ⟨⟨inv_of (by decide), by decide, by decide⟩, ⟨inv_of (by decide), by decide, by decide⟩⟩

/-- An unarmed receiver that has counted one preamble byte. -/
theorem witness_ArmedReceiverOverflowsUnarmedNeverDoes_unarmed :
    ((held tiny [0xFE] 1 false).setInputs ((List.replicate 12 0x11).map rxWord)).Inv ∧
      (held tiny [0xFE] 1 false).pcount ≠ 2 ∧
      (∀ b ∈ List.replicate 12 (0x11 : Byte), b ≠ 0xFE ∧ b ≠ 0xFD) := ⟨inv_of (by decide), by decide⟩

theorem witness_SourceFramingExampleCompletesAtItsLastByte :
    Config.reference.valid = true ∧ tiny.valid = true := by decide

/-- The seven paths: an empty frame, one stored byte, an echo, a foreign source, and the three commands. -/
theorem witness_DispatchFollowsItsChecksInOrder :
    ∀ f ∈ [[], [0xFE], bare 0x03 |>.set 2 0x58, bare 0x03 |>.set 3 0x12, bare 0x03, bare 0x04, bare 0x02],
      (framed Config.reference f).Sound ∧ (framed Config.reference f).complete = true := by decide

theorem witness_CommandClassDoesWhatDispatchDoes :
    (framed Config.reference freqReply).complete = true ∧ (framed Config.reference freqReply).Accepted := by
  decide

theorem witness_FrequencyClassesStoreTheDecodedPayload :
    (framed Config.reference freqReply).Sound ∧ (framed Config.reference freqReply).complete = true ∧
      (framed Config.reference freqReply).Accepted := by decide

theorem witness_ModeClassesStoreTheirPayloadByte :
    (framed Config.reference modeFrame).Sound ∧ (framed Config.reference modeFrame).complete = true ∧
      (framed Config.reference modeFrame).Accepted := by decide

theorem witness_OtherClassesAreUnrecognizedAndStoreNothing :
    (framed tiny (bare 0xFB)).Sound ∧ (framed tiny (bare 0xFB)).complete = true ∧
      (framed tiny (bare 0xFB)).Accepted := by decide

theorem witness_EveryDispatchLeavesACleanReceiver :
    isDispatch .dispatchGetFreq = true ∧ (framed Config.reference freqReply).Inv ∧
      ∃ t, exec .dispatchGetFreq (framed Config.reference freqReply) = .next t :=
  ⟨rfl, inv_of (by decide), _, rfl⟩

/-- Our own REQ_FREQ frame, under both echo settings. -/
theorem witness_OwnFrameIsNeverStored :
    ∀ cfg ∈ [Config.reference, literal],
      let s := framed cfg [0xFE, 0xFE, 0x58, 0xE0, 0x03, 0xFD]
      s.Sound ∧ s.complete = true ∧ s.WellFramed ∧ s.buf.read 2 = s.cfg.rigAddr ∧ s.buf.read 3 = 0xE0 := by
  decide

/-- A reply to us, and a broadcast that is stored. -/
theorem witness_LiteralEchoConfigurationDiscardsReplies :
    ∀ f ∈ [freqReply, freqReply.set 2 0x00],
      let s := framed literal f
      s.Sound ∧ s.complete = true ∧ s.cfg.echoAddr = 0xE0 ∧ s.WellFramed := by decide

/-- Frames of length 0, 1, 3 and `MAX_LEN`, and one with a foreign source. -/
theorem witness_FramingErrorsOfReceivedFrames :
    (framed tiny []).Inv ∧ (framed tiny [0xFE]).Inv ∧ (framed tiny [0xFE, 0xFE, 0xFD]).Inv ∧
      (framed tiny freqReply).Inv ∧ (framed tiny (freqReply.set 3 0x12)).Inv :=
  ⟨inv_of (by decide), inv_of (by decide), inv_of (by decide), inv_of (by decide), inv_of (by decide)⟩

/-- V-DISP-5. -/
theorem witness_StoredFrequencyMayEqualTheSentinel :
    let s := framed Config.reference
      [0xFE, 0xFE, 0xE0, 0x58, 0x03, 0x95, 0x72, 0x96, 0x94, 0x42, 0xFD]
    s.Sound ∧ s.complete = true ∧ s.Accepted ∧ s.buf.read 4 = s.cfg.cmdGetFreq ∧
      s.payload = enc s.cfg.freqSentinel := by decide

theorem witness_OnlyDispatchReadsTheBufferAtItsFixedCells_others :
    isDispatch (.rxByte 0x11) = false ∧
      ∃ t, exec (.rxByte 0x11) (armed tiny 10) = .next t := ⟨rfl, _, rfl⟩

/-- Two buffers that differ in cell 12, which a frame of 11 bytes does not reach. -/
theorem witness_OnlyDispatchReadsTheBufferAtItsFixedCells_dispatch :
    (∃ t, exec .dispatch (framed Config.reference freqReply) = .next t) ∧
      (∀ a ≤ 10, ((framed Config.reference freqReply).buf.write 12 0xAA).read a =
        (framed Config.reference freqReply).buf.read a) ∧
      (framed Config.reference freqReply).buf.write 12 0xAA ≠ (framed Config.reference freqReply).buf :=
  ⟨⟨_, rfl⟩, by decide, by decide⟩

theorem witness_OnlyDispatchReadsTheBufferAtItsFixedCells_inside :
    (armed tiny 11).Sound ∧ (armed tiny 11).length = tiny.maxLen := by decide

/-- The four commands, in the reset state and over an earlier frame with a reception in progress. -/
theorem witness_IssueBuildsItsFrame :
    ∀ s ∈ [State.reset, (sending .writeFreq 14195000 11).setSend 11 11 false, armed Config.reference 5],
      s.Sound ∧ s.txbuf.wf 11 ∧ s.complete = false ∧ s.txbusy = false := by decide

theorem witness_WrittenFrequencyDecodesFromTheShadow :
    State.reset.txbuf.wf 11 ∧ ∃ t, exec (.issueWriteFreq 14195000) State.reset = .next t :=
  ⟨by decide, _, rfl⟩

theorem witness_CommandsIgnoreTheirUnusedOperandBits :
    (∃ t, exec (.issueReqFreq 0) State.reset = .next t) ∧ (∃ t, exec (.issueReqMode 0) State.reset = .next t) ∧
      (∃ t, exec (.issueWriteMode 0x103) State.reset = .next t) ∧
      (0x103 : BitVec 32).extractLsb' 0 8 = (0x203 : BitVec 32).extractLsb' 0 8 :=
  ⟨⟨_, rfl⟩, ⟨_, rfl⟩, ⟨_, rfl⟩, by decide⟩

/-- A first byte, and the last byte of the longest frame. -/
theorem witness_TxByteFollowsItsVerdict :
    ∀ i ∈ [0, 10],
      let s := sending .writeFreq 14195000 i
      s.Sound ∧ s.complete = false ∧ s.txbusy = true ∧ s.txidx < 11 := by decide

theorem witness_TxByteOutsideTheShadowFaults :
    let s := sending .writeFreq 14195000 11
    s.Sound ∧ s.complete = false ∧ s.txbusy = true ∧ s.txidx = 11 := by decide

theorem witness_AcknowledgedSendWritesItsWholeFrame :
    ((sending .reqFreq 0 0).setInputs (List.replicate 6 (txWord true))).Inv ∧
      (sending .reqFreq 0 0).complete = false ∧ (sending .reqFreq 0 0).txbusy = true ∧
      ((sending .reqFreq 0 0).setInputs (List.replicate 6 (txWord true))).inputs =
        List.replicate (6 - 0) (txWord true) ++ [] := ⟨inv_of (by decide), rfl, rfl, by decide⟩

/-- A transport that stays silent, and a bus that always has a byte. -/
theorem witness_SendMakesNoProgressWithoutTheEnvironment :
    (((sending .reqFreq 0 3).setInputs [0x400, 0x3FA]).Inv ∧
        (∀ w ∈ [(0x400 : InputWord), 0x3FA], inRst w = false ∧ inTxAck w = false)) ∧
      (((sending .reqFreq 0 3).setInputs [0x6000000003FA, 0x6000000003FA]).Inv ∧
        (∀ w ∈ [(0x6000000003FA : InputWord), 0x6000000003FA], inRst w = false ∧ inRxValid w = true)) :=
  ⟨⟨inv_of (by decide), List.forall_mem_cons.2 ⟨by decide, List.forall_mem_singleton.2 (by decide)⟩⟩,
    inv_of (by decide), List.forall_mem_cons.2 ⟨by decide, List.forall_mem_singleton.2 (by decide)⟩⟩

/-- Two shadows that differ above the frame being sent. -/
theorem witness_TxByteReadsNoCellAboveItsFrame :
    (sending .reqFreq 0 5).Inv ∧ (∃ t, exec (.txByte true) (sending .reqFreq 0 5) = .next t) ∧
      (∀ a < 6, ((sending .reqFreq 0 5).txbuf.write 6 0xAA).read a = (sending .reqFreq 0 5).txbuf.read a) :=
  ⟨inv_of (by decide), ⟨_, rfl⟩, by decide⟩

/-- A state the spec calls unreachable, which RESET leaves. -/
theorem witness_ResetGivesEveryElementItsResetValue :
    ((sending .reqFreq 0 3).setTxStatus 3).cfg.valid = true := by decide

theorem witness_IdleChangesNoState :
    (State.reset.Sound ∧ State.reset.complete = false ∧ State.reset.txbusy = false) ∧
      ((sending .reqFreq 0 3).Sound ∧ (sending .reqFreq 0 3).complete = false ∧
        (sending .reqFreq 0 3).txbusy = true) := by decide

theorem witness_StepRunsTheDecodedInstruction :
    decodeInput Config.reference (contextOf (framed Config.reference freqReply)) 0 = .dispatchGetFreq := by
  decide

theorem witness_StepFollowsThePriority : (State.reset.setInputs [0x400]).inputs = 0x400 :: [] := rfl

theorem witness_StepKeepsTheInvariant :
    ((armed tiny 10).setInputs [rxWord 0xFD]).Inv ∧
      ∃ t, step ((armed tiny 10).setInputs [rxWord 0xFD]) = .next t := ⟨inv_of (by decide), _, rfl⟩

theorem witness_ResetStateHasTheInvariant : literal.valid = true := by decide

theorem witness_EveryRunFromTheInvariantIsSafe : (sending .writeFreq 14195000 10).Inv := inv_of (by decide)

theorem witness_ConfigurationIsNeverWritten :
    (∃ t, exec .reset State.reset = .next t) ∧ ∃ t, step State.reset = .next t := ⟨⟨_, rfl⟩, _, rfl⟩

theorem witness_IllegalConfigurationsAreRefused :
    (State.resetOf { tiny with maxLen := 10 } []).cfg.valid = false := by decide

/-- The least reserved code of each register, and each count just above its range. -/
theorem witness_ReservedCodesAndRangesFault :
    Instr.idle ≠ .reset ∧ State.reset.cfg.valid = true ∧
      (State.reset.setReceiver 0 3 false).pcount = 3 ∧
      (6 : BitVec 3) ≤ (State.reset.setDispStatus 6).dispStatus ∧
      (State.reset.setTxStatus 3).txStatus = 3 ∧
      State.reset.cfg.maxLen < (State.reset.setReceiver 17 0 false).length ∧
      11 < (State.reset.setSend 12 0 false).txlen ∧ 11 < (State.reset.setSend 0 12 false).txidx := by decide

/-- A sound state in which RX_BYTE is selectable, and one in which it is refused. -/
theorem witness_OnlySelectableOperationsRun :
    (State.reset.Sound ∧ SelectableIn (.rxByte 0xFE) State.reset) ∧
      ((framed tiny freqReply).Sound ∧
        exec (.rxByte 0xFE) (framed tiny freqReply) = .refused .notEnabled) :=
  ⟨⟨by decide, rfl⟩, by decide, rfl⟩

theorem witness_ReceiverElementsHaveTheirWriters :
    (∃ t, exec .dispatch (framed tiny freqReply) = .next t) ∧
      (∃ t, exec (.txByte false) (sending .reqFreq 0 3) = .next t) ∧ Instr.dispatch ≠ .reset ∧
      ∀ b, Instr.dispatch ≠ .rxByte b := ⟨⟨_, rfl⟩, ⟨_, rfl⟩, by decide, fun _ h => nomatch h⟩

theorem witness_StoreElementsHaveTheirWriters :
    (∃ t, exec .dispatchGetFreq (framed tiny freqReply) = .next t) ∧
      (∃ t, exec (.issueWriteMode 3) State.reset = .next t) ∧ Instr.dispatchGetFreq ≠ .reset :=
  ⟨⟨_, rfl⟩, ⟨_, rfl⟩, by decide⟩

theorem witness_StatusAndTransmitterElementsHaveTheirWriters :
    (∃ t, exec .dispatch (framed tiny freqReply) = .next t) ∧
      (∃ t, exec (.issueReqFreq 3) State.reset = .next t) ∧ (∃ t, exec .idle State.reset = .next t) ∧
      Instr.idle ≠ .reset := ⟨⟨_, rfl⟩, ⟨_, rfl⟩, ⟨_, rfl⟩, by decide⟩

/-- A byte that is taken, and one that waits for a DISPATCH. -/
theorem witness_ReceiveHandshakeIsRxByte :
    (((armed tiny 10).setInputs [rxWord 0x11]).Inv ∧
        ∃ t, step ((armed tiny 10).setInputs [rxWord 0x11]) = .next t) ∧
      (((framed tiny freqReply).setInputs [rxWord 0x11]).Inv ∧
        ∃ t, step ((framed tiny freqReply).setInputs [rxWord 0x11]) = .next t) :=
  ⟨⟨inv_of (by decide), _, rfl⟩, inv_of (by decide), _, rfl⟩

/-- A command that is taken, and one that waits for a send. -/
theorem witness_CommandHandshakeIsIssue :
    ((State.reset.setInputs [0x400]).Inv ∧ ∃ t, step (State.reset.setInputs [0x400]) = .next t) ∧
      (((sending .reqFreq 0 3).setInputs [0x400]).Inv ∧
        ∃ t, step ((sending .reqFreq 0 3).setInputs [0x400]) = .next t) :=
  ⟨⟨inv_of (by decide), _, rfl⟩, inv_of (by decide), _, rfl⟩

/-- A byte that is written, and one that is not. -/
theorem witness_TransmitHandshakeIsTxByte :
    (((sending .reqFreq 0 5).setInputs [txWord true]).Inv ∧
        ∃ t, step ((sending .reqFreq 0 5).setInputs [txWord true]) = .next t) ∧
      (((sending .reqFreq 0 5).setInputs [0]).Inv ∧
        ∃ t, step ((sending .reqFreq 0 5).setInputs [0]) = .next t) :=
  ⟨⟨inv_of (by decide), _, rfl⟩, inv_of (by decide), _, rfl⟩

/-- The terminator that fills the buffer, with a byte offered at the next step. -/
theorem witness_CompletedFrameIsDispatchedNext :
    let s := (armed tiny 10).setInputs [rxWord 0xFD, rxWord 0xFE]
    s.Inv ∧ s.complete = false ∧
      ∃ t, step s = .next t ∧ t.complete = true ∧ inRst (t.inputs.headD 0) = false :=
  ⟨inv_of (by decide), rfl, _, rfl, rfl, by decide⟩

/-- A frame abandoned by an overflow. -/
theorem witness_NothingElseCancelsAFrameOrASend_overflow :
    let s := (armed tiny 11).setInputs [rxWord 0xFD]
    s.Inv ∧ s.complete = false ∧ s.pcount = 2 ∧
      ∃ t, step s = .next t ∧ t.complete = false ∧ t.pcount ≠ 2 ∧ t.length < s.length :=
  ⟨inv_of (by decide), rfl, rfl, _, rfl, by decide⟩

/-- A frame consumed by its DISPATCH. -/
theorem witness_NothingElseCancelsAFrameOrASend_dispatch :
    (framed tiny freqReply).Inv ∧
      ∃ t, step (framed tiny freqReply) = .next t ∧ t.length < (framed tiny freqReply).length :=
  ⟨inv_of (by decide), _, rfl, by decide⟩

/-- A send ended by a failed write, and by its last write. -/
theorem witness_NothingElseCancelsAFrameOrASend_send :
    ∀ ok, let s := (sending .reqFreq 0 5).setInputs [txWord ok]
      s.Inv ∧ s.txbusy = true ∧ ∃ t, step s = .next t ∧ t.txbusy = false := by
  intro ok
  cases ok <;> exact ⟨inv_of (by decide), rfl, _, rfl, rfl⟩

theorem witness_HostSeesNoHiddenElement :
    ((sending .reqFreq 0 3).txbuf.write 4 0xAA).read 3 = (sending .reqFreq 0 3).txbuf.read 3 := by decide

theorem witness_DecodeOfEncodeIsTheInstruction :
    Config.reference.valid = true ∧ (Instr.dispatchOther 0xFF).wellFormed Config.reference = true ∧
      encode Config.reference (.dispatchOther 0xFF) = .command 0xFF ∧
      (Instr.issueWriteFreq 0xFFFFFFFF).wellFormed Config.reference = true := by decide

theorem witness_ExactlyOneTableRowMatches :
    (⟨true, true, none⟩ : Context).accepted = none ∧ literal.valid = true := by decide

end Sys2Proof.Tests
end

section
/-! The configuration along operations and steps (00_scope.md R8): the body of each operation keeps it, so
every next state has it. -/

namespace Sys2Proof.Machine

/-! ### The bodies of the operations -/

@[simp] theorem endDispatch_cfg (o : DispOutcome) (s : State) : (endDispatch o s).cfg = s.cfg := by
  simp [endDispatch]

@[simp] theorem storeFrequency_cfg (s : State) : (storeFrequency s).cfg = s.cfg := by
  simp [storeFrequency]

@[simp] theorem storeMode_cfg (s : State) : (storeMode s).cfg = s.cfg := by
  simp [storeMode]

@[simp] theorem leaveUnrecognized_cfg (s : State) : (leaveUnrecognized s).cfg = s.cfg :=
  endDispatch_cfg _ s

/-- Each outcome that DISPATCH's checks can find keeps the configuration. -/
@[simp] theorem dispatchFrame_cfg (s : State) : (dispatchFrame s).cfg = s.cfg := by
  obtain ⟨-, h⟩ | ⟨-, -, h⟩ | ⟨-, -, -, h⟩ | ⟨-, ⟨-, h⟩ | ⟨-, -, h⟩ | ⟨-, -, h⟩⟩ :=
    dispatchFrame_cases s <;> simp [h]

/-- Whether its byte passes, overflows or is appended, RX_BYTE keeps the configuration. -/
@[simp] theorem receive_cfg (b : Byte) (s : State) : (receive b s).cfg = s.cfg := by
  obtain ⟨-, h⟩ | ⟨-, -, h⟩ | ⟨-, -, h⟩ := receive_cases b s <;> rw [h]

@[simp] theorem issue_cfg (op : CmdOp) (arg : BitVec 32) (s : State) : (issue op arg s).cfg = s.cfg := by
  rw [issue_eq]

/-- Whether its write ends the send, continues it or fails, TX_BYTE keeps the configuration. -/
theorem transmit_next_cfg {ok : Bool} {s t : State} (h : transmit ok s = .next t) : t.cfg = s.cfg := by
  obtain ⟨-, ⟨-, -, rfl⟩ | ⟨-, -, rfl⟩ | ⟨-, rfl⟩⟩ := (transmit_eq_next_iff ok s t).1 h <;> rfl

@[simp] theorem afterSample_cfg (s : State) : (afterSample s).cfg = s.cfg :=
  State.setInputs_cfg s _

/-! ### Operations and steps -/

/-- Every next state of an operation has the configuration of the state before, by the operation's body. -/
theorem exec_next_cfg {i : Instr} {s t : State} (h : exec i s = .next t) : t.cfg = s.cfg := by
  obtain ⟨-, -, rfl⟩ | ⟨-, hbody⟩ := exec_eq_next_cases h
  · -- RESET rebuilds the state from its own configuration
    rfl
  obtain ⟨-, -, rfl⟩ | ⟨-, -, -, rfl⟩ | ⟨-, -, -, rfl⟩ | ⟨-, -, -, rfl⟩ | ⟨b, -, -, rfl⟩ |
    ⟨ok, -, -, -, htx⟩ | ⟨arg, -, -, -, rfl⟩ | ⟨arg, -, -, -, rfl⟩ | ⟨arg, -, -, -, rfl⟩ |
    ⟨arg, -, -, -, rfl⟩ | ⟨-, -, -, rfl⟩ | ⟨-, -, -, rfl⟩ := hbody
  · exact dispatchFrame_cfg s
  · exact storeFrequency_cfg s
  · exact storeMode_cfg s
  · exact leaveUnrecognized_cfg s
  · exact receive_cfg b s
  · exact transmit_next_cfg htx
  · exact issue_cfg .reqFreq arg s
  · exact issue_cfg .reqMode arg s
  · rw [State.setFreq_cfg, issue_cfg]
  · rw [State.setMode_cfg, issue_cfg]
  · exact State.setLabel_cfg s .idle
  · exact State.setLabel_cfg s .idle

/-- A step runs its operation after the word is sampled, and sampling keeps the configuration. -/
theorem step_next_cfg {s t : State} (h : step s = .next t) : t.cfg = s.cfg :=
  (exec_next_cfg h).trans (afterSample_cfg s)

/-- Settles O39: every operation, by its body, and so every step. -/
theorem configurationIsNeverWritten : Obligations.ConfigurationIsNeverWritten :=
  ⟨fun _ _ _ => exec_next_cfg, fun _ _ => step_next_cfg⟩

end Sys2Proof.Machine
end

section
/-! Which elements an operation writes (10_state.md R21 to R33). Every next state that is not RESET's is the
effect of a DISPATCH, a byte received, a byte written, a command or an idle step, and each effect is one update
that names the elements it writes. -/

namespace Sys2Proof.Machine

/-! ### The effects of DISPATCH and of ISSUE as one update each -/

/-- The effect of a DISPATCH that finds outcome `o` (R121, R122, R129 to R133): a DISPATCH stores only
what its outcome reports. -/
def dispatched (o : DispOutcome) (s : State) : State :=
  { s with freq := if o = .okFreq then dec s.payload else s.freq,
           mode := if o = .okMode then s.buf.read 5 else s.mode,
           dispStatus := o.code, length := 0, complete := false, label := .dispatch o o.returns }

theorem storeFrequency_eq_dispatched (s : State) : storeFrequency s = dispatched .okFreq s := rfl

theorem storeMode_eq_dispatched (s : State) : storeMode s = dispatched .okMode s := rfl

theorem leaveUnrecognized_eq_dispatched (s : State) : leaveUnrecognized s = dispatched .unrecognized s := rfl

/-- Whichever check decides, the whole DISPATCH has the effect of an outcome. -/
theorem dispatchFrame_eq_dispatched (s : State) : ∃ o, dispatchFrame s = dispatched o s := by
  obtain ⟨-, h⟩ | ⟨-, -, h⟩ | ⟨-, -, -, h⟩ | ⟨-, ⟨-, h⟩ | ⟨-, -, h⟩ | ⟨-, -, h⟩⟩ := dispatchFrame_cases s
  · exact ⟨.framingErr, h⟩
  · exact ⟨.echoSkipped, h⟩
  · exact ⟨.framingErr, h⟩
  · exact ⟨.okFreq, h⟩
  · exact ⟨.okMode, h⟩
  · exact ⟨.unrecognized, h⟩

/-- An outcome records one of the five codes of R27 other than NONE. -/
theorem DispOutcome.code_mem (o : DispOutcome) : o.code ∈ [(1 : BitVec 3), 2, 3, 4, 5] := by
  cases o <;> decide

/-- The operation of a command with its operand (R140). -/
def issueInstr : CmdOp → BitVec 32 → Instr
  | .reqFreq => .issueReqFreq
  | .reqMode => .issueReqMode
  | .writeFreq => .issueWriteFreq
  | .writeMode => .issueWriteMode

@[simp] theorem isIssue_issueInstr (op : CmdOp) (arg : BitVec 32) : isIssue (issueInstr op arg) = true := by
  cases op <;> rfl

@[simp] theorem isDispatch_issueInstr (op : CmdOp) (arg : BitVec 32) :
    isDispatch (issueInstr op arg) = false := by
  cases op <;> rfl

/-- The whole effect of a command: its frame, and the invalidation of what it writes (R140, R144, R145). -/
def issued (op : CmdOp) (arg : BitVec 32) (s : State) : State :=
  { s with txbuf := s.txbuf.writeFrom 0 (buildFrame s.cfg op arg),
           txlen := (buildFrame s.cfg op arg).length, txidx := 0, txbusy := true, txStatus := txNone,
           freq := if op = .writeFreq then s.cfg.freqSentinel else s.freq,
           mode := if op = .writeMode then s.cfg.modeSentinel else s.mode,
           label := .issue op arg }

theorem issue_reqFreq_eq_issued (arg : BitVec 32) (s : State) :
    issue .reqFreq arg s = issued .reqFreq arg s := by
  rw [issue_eq, issued, if_neg (by decide), if_neg (by decide)]

theorem issue_reqMode_eq_issued (arg : BitVec 32) (s : State) :
    issue .reqMode arg s = issued .reqMode arg s := by
  rw [issue_eq, issued, if_neg (by decide), if_neg (by decide)]

theorem issue_writeFreq_setFreq_eq_issued (arg : BitVec 32) (s : State) :
    (issue .writeFreq arg s).setFreq s.cfg.freqSentinel = issued .writeFreq arg s := by
  rw [issue_eq, State.setFreq, issued, if_pos rfl, if_neg (by decide)]

theorem issue_writeMode_setMode_eq_issued (arg : BitVec 32) (s : State) :
    (issue .writeMode arg s).setMode s.cfg.modeSentinel = issued .writeMode arg s := by
  rw [issue_eq, State.setMode, issued, if_neg (by decide), if_pos rfl]

theorem issued_freq (op : CmdOp) (arg : BitVec 32) (s : State) :
    (issued op arg s).freq = if op = .writeFreq then s.cfg.freqSentinel else s.freq := by
  rw [issued]

theorem issued_mode (op : CmdOp) (arg : BitVec 32) (s : State) :
    (issued op arg s).mode = if op = .writeMode then s.cfg.modeSentinel else s.mode := by
  rw [issued]

/-- A command sends one of the three frame lengths (R30). -/
theorem issued_txlen_mem (op : CmdOp) (arg : BitVec 32) (s : State) :
    (issued op arg s).txlen ∈ [6, 7, 11] := by
  have hlen : (issued op arg s).txlen = (buildFrame s.cfg op arg).length := by rw [issued]
  rw [hlen, buildFrame_length]
  cases op <;> decide

/-! ### The frames of ISSUE, RX_BYTE and TX_BYTE -/

/-- ISSUE starts a send, may invalidate `freq` or `mode`, and writes the label, and nothing else. -/
theorem issued_frame (op : CmdOp) (arg : BitVec 32) (s : State) :
    ∃ m n f g l, issued op arg s =
      { s with txbuf := m, txlen := n, txidx := 0, txbusy := true, txStatus := 0,
               freq := f, mode := g, label := l } :=
  ⟨_, _, _, _, _, rfl⟩

/-- RX_BYTE writes the receiver's elements and the label, and nothing else. -/
theorem receive_frame (b : Byte) (s : State) :
    ∃ m n p c e l, receive b s =
      { s with buf := m, length := n, pcount := p, complete := c, rxLenErr := e, label := l } := by
  obtain ⟨-, h⟩ | ⟨-, -, h⟩ | ⟨-, -, h⟩ := receive_cases b s <;> exact ⟨_, _, _, _, _, _, h⟩

/-- TX_BYTE writes the index, the busy flag, the status and the label, and nothing else. -/
theorem transmit_next_frame {ok : Bool} {s t : State} (h : transmit ok s = .next t) :
    ∃ x b v l, t = { s with txidx := x, txbusy := b, txStatus := v, label := l } := by
  obtain ⟨-, ⟨-, -, h⟩ | ⟨-, -, h⟩ | ⟨-, h⟩⟩ := (transmit_eq_next_iff ok s t).1 h <;>
    exact ⟨_, _, _, _, h⟩

/-! ### Operations by their kind -/

/-- Every next state of an operation that is not RESET, by the operation's kind. -/
theorem exec_eq_next_kinds {i : Instr} {s t : State} (h : exec i s = .next t) (hi : i ≠ .reset) :
    (isDispatch i = true ∧ isIssue i = false ∧ ∃ o, t = dispatched o s) ∨
    (∃ b, i = .rxByte b ∧ t = receive b s) ∨
    (∃ ok, i = .txByte ok ∧ transmit ok s = .next t) ∨
    (∃ op arg, i = issueInstr op arg ∧ t = issued op arg s) ∨
    ((i = .idleTxwait ∨ i = .idle) ∧ t = s.setLabel .idle) := by
  obtain ⟨hr, -, -⟩ | ⟨-, hbody⟩ := exec_eq_next_cases h
  · exact absurd hr hi
  obtain ⟨rfl, -, ht⟩ | ⟨hk, -, -, ht⟩ | ⟨hk, -, -, ht⟩ | ⟨hk, -, -, ht⟩ | ⟨b, hk, -, ht⟩ |
    ⟨ok, hk, -, -, ht⟩ | ⟨arg, hk, -, -, ht⟩ | ⟨arg, hk, -, -, ht⟩ | ⟨arg, hk, -, -, ht⟩ |
    ⟨arg, hk, -, -, ht⟩ | ⟨hk, -, -, ht⟩ | ⟨hk, -, -, ht⟩ := hbody
  · obtain ⟨o, ho⟩ := dispatchFrame_eq_dispatched s
    exact .inl ⟨rfl, rfl, o, ht.trans ho⟩
  · obtain rfl | rfl := hk <;> exact .inl ⟨rfl, rfl, .okFreq, ht⟩
  · obtain rfl | rfl := hk <;> exact .inl ⟨rfl, rfl, .okMode, ht⟩
  · obtain rfl | rfl | rfl | rfl | rfl | ⟨cmd, rfl⟩ := hk <;> exact .inl ⟨rfl, rfl, .unrecognized, ht⟩
  · exact .inr (.inl ⟨b, hk, ht⟩)
  · exact .inr (.inr (.inl ⟨ok, hk, ht⟩))
  · exact .inr (.inr (.inr (.inl ⟨.reqFreq, arg, hk,
      ht.trans (issue_reqFreq_eq_issued arg s)⟩)))
  · exact .inr (.inr (.inr (.inl ⟨.reqMode, arg, hk,
      ht.trans (issue_reqMode_eq_issued arg s)⟩)))
  · exact .inr (.inr (.inr (.inl ⟨.writeFreq, arg, hk,
      ht.trans (issue_writeFreq_setFreq_eq_issued arg s)⟩)))
  · exact .inr (.inr (.inr (.inl ⟨.writeMode, arg, hk,
      ht.trans (issue_writeMode_setMode_eq_issued arg s)⟩)))
  · exact .inr (.inr (.inr (.inr ⟨.inl hk, ht⟩)))
  · exact .inr (.inr (.inr (.inr ⟨.inr hk, ht⟩)))

/-! ### The writers of each element -/

/-- Settles O43: DISPATCH's one update names `length` and `complete` alone of these elements, and the updates
of TX_BYTE, ISSUE and IDLE name none. -/
theorem receiverElementsHaveTheirWriters : Obligations.ReceiverElementsHaveTheirWriters := by
  intro i s t h hi hrx
  obtain ⟨hd, -, o, rfl⟩ | ⟨b, rfl, -⟩ | ⟨ok, rfl, htx⟩ | ⟨op, arg, rfl, rfl⟩ | ⟨rfl | rfl, rfl⟩ :=
    exec_eq_next_kinds h hi
  · rw [if_pos hd]
    exact ⟨rfl, rfl, rfl, rfl, rfl⟩
  · exact absurd rfl (hrx b)
  · obtain ⟨x, busy, v, l, rfl⟩ := transmit_next_frame htx
    exact ⟨rfl, rfl, rfl, rfl, rfl⟩
  · obtain ⟨m, n, f, g, l, hissued⟩ := issued_frame op arg s
    rw [isDispatch_issueInstr, hissued]
    exact ⟨rfl, rfl, rfl, rfl, rfl⟩
  · exact ⟨rfl, rfl, rfl, rfl, rfl⟩
  · exact ⟨rfl, rfl, rfl, rfl, rfl⟩

/-- A DISPATCH leaves `freq` unless its outcome is OK_FREQ, whose code it then reports. -/
theorem dispatched_freq (o : DispOutcome) (s : State) :
    (dispatched o s).freq = s.freq ∨
      ((dispatched o s).dispStatus = 1 ∧ (dispatched o s).freq = dec s.payload) := by
  by_cases ho : o = .okFreq
  · subst ho
    exact .inr ⟨rfl, rfl⟩
  · exact .inl (if_neg ho)

/-- A DISPATCH leaves `mode` unless its outcome is OK_MODE, whose code it then reports. -/
theorem dispatched_mode (o : DispOutcome) (s : State) :
    (dispatched o s).mode = s.mode ∨
      ((dispatched o s).dispStatus = 2 ∧ (dispatched o s).mode = s.buf.read 5) := by
  by_cases ho : o = .okMode
  · subst ho
    exact .inr ⟨rfl, rfl⟩
  · exact .inl (if_neg ho)

/-- Settles O44: a DISPATCH stores only what its outcome reports, of the commands each WRITE invalidates its own
element, and no other update names `freq` or `mode`. -/
theorem storeElementsHaveTheirWriters : Obligations.StoreElementsHaveTheirWriters := by
  intro i s t h hi
  obtain ⟨hd, -, o, rfl⟩ | ⟨b, rfl, rfl⟩ | ⟨ok, rfl, htx⟩ | ⟨op, arg, rfl, rfl⟩ | ⟨-, rfl⟩ :=
    exec_eq_next_kinds h hi
  · exact ⟨(dispatched_freq o s).imp_right fun hf => .inl ⟨hd, hf⟩,
      (dispatched_mode o s).imp_right fun hm => .inl ⟨hd, hm⟩⟩
  · obtain ⟨m, n, p, c, e, l, hrx⟩ := receive_frame b s
    rw [hrx]
    exact ⟨.inl rfl, .inl rfl⟩
  · obtain ⟨x, busy, v, l, rfl⟩ := transmit_next_frame htx
    exact ⟨.inl rfl, .inl rfl⟩
  · rw [issued_freq, issued_mode]
    cases op with
    | reqFreq => exact ⟨.inl rfl, .inl rfl⟩
    | reqMode => exact ⟨.inl rfl, .inl rfl⟩
    | writeFreq => exact ⟨.inr (.inr ⟨arg, rfl, rfl⟩), .inl rfl⟩
    | writeMode => exact ⟨.inl rfl, .inr (.inr ⟨arg, rfl, rfl⟩)⟩
  · exact ⟨.inl rfl, .inl rfl⟩

/-- Settles O45: DISPATCH's update names `dispStatus` alone of these elements, ISSUE's names the shadow and
the send, and TX_BYTE's names the index, the busy flag and the status. -/
theorem statusAndTransmitterElementsHaveTheirWriters :
    Obligations.StatusAndTransmitterElementsHaveTheirWriters := by
  intro i s t h hi
  obtain ⟨hd, hnoIssue, o, rfl⟩ | ⟨b, rfl, rfl⟩ | ⟨ok, rfl, htx⟩ | ⟨op, arg, rfl, rfl⟩ |
    ⟨rfl | rfl, rfl⟩ := exec_eq_next_kinds h hi
  · rw [hd, hnoIssue]
    exact ⟨nofun, fun _ => o.code_mem, fun _ => ⟨rfl, rfl⟩, nofun, fun _ _ => ⟨rfl, rfl, rfl⟩⟩
  · obtain ⟨m, n, p, c, e, l, hrx⟩ := receive_frame b s
    rw [hrx]
    exact ⟨fun _ => rfl, nofun, fun _ => ⟨rfl, rfl⟩, nofun, fun _ _ => ⟨rfl, rfl, rfl⟩⟩
  · obtain ⟨x, busy, v, l, rfl⟩ := transmit_next_frame htx
    exact ⟨fun _ => rfl, nofun, fun _ => ⟨rfl, rfl⟩, nofun, fun _ hne => absurd rfl (hne ok)⟩
  · have htxlen := issued_txlen_mem op arg s
    obtain ⟨m, n, f, g, l, hissued⟩ := issued_frame op arg s
    rw [hissued] at htxlen ⊢
    rw [isDispatch_issueInstr, isIssue_issueInstr]
    exact ⟨fun _ => rfl, nofun, nofun, fun _ => ⟨htxlen, rfl, rfl, rfl⟩, nofun⟩
  · exact ⟨fun _ => rfl, nofun, fun _ => ⟨rfl, rfl⟩, nofun, fun _ _ => ⟨rfl, rfl, rfl⟩⟩
  · exact ⟨fun _ => rfl, nofun, fun _ => ⟨rfl, rfl⟩, nofun, fun _ _ => ⟨rfl, rfl, rfl⟩⟩

end Sys2Proof.Machine
end

section
/-! States no run reaches, the reset state, and the outputs (10_state.md R20, R35 and R40). -/

namespace Sys2Proof.Machine

/-! ### Unreachable states -/

/-- Every operation but RESET is performed under the conditions of `perform`. -/
theorem exec_eq_perform {i : Instr} (hi : i ≠ .reset) (s : State) : ∃ en k, exec i s = perform en s k := by
  cases i
  case reset => exact absurd rfl hi
  all_goals exact ⟨_, _, rfl⟩

/-- A reserved code or a count out of its range of R20 is a reason to stop. -/
theorem exists_illegal_of_out_of_range {s : State}
    (h : s.pcount = 3 ∨ 6 ≤ s.dispStatus ∨ s.txStatus = 3 ∨ s.cfg.maxLen < s.length ∨ 11 < s.txlen ∨
      11 < s.txidx) : ∃ f, illegal s = some f := by
  rw [← Option.ne_none_iff_exists', Ne, illegal_eq_none_iff]
  rintro ⟨hpcount, hdisp, htxStatus, hlength, htxlen, htxidx⟩
  obtain h | h | h | h | h | h := h
  · exact hpcount h
  · exact absurd (BitVec.le_trans h hdisp) (by decide)
  · exact htxStatus h
  · exact absurd hlength (Nat.not_le.2 h)
  · exact absurd htxlen (Nat.not_le.2 h)
  · exact absurd htxidx (Nat.not_le.2 h)

/-- Settles O41: such a state is illegal, and in an illegal state no operation is performed. -/
theorem reservedCodesAndRangesFault : Obligations.ReservedCodesAndRangesFault := by
  intro i s hi hcfg h
  obtain ⟨f, hf⟩ := exists_illegal_of_out_of_range h
  obtain ⟨en, k, hexec⟩ := exec_eq_perform hi s
  exact ⟨f, hexec.trans (perform_of_illegal hcfg hf en k)⟩

/-! ### RESET and its state -/

/-- Under a legal configuration RESET completes in the reset state. -/
theorem exec_reset_eq {s : State} (h : s.cfg.valid = true) :
    exec .reset s = .next (State.resetOf s.cfg s.inputs) :=
  if_pos h

/-- Settles O32: RESET reaches the reset state, whose fields are those of R20's table. -/
theorem resetGivesEveryElementItsResetValue : Obligations.ResetGivesEveryElementItsResetValue :=
  fun _ h => ⟨exec_reset_eq h, Memory.read_nil⟩

/-- After reset both arrays are empty, the receiver holds no byte and the transmitter no frame, so that each
clause of the invariant speaks of no cell. -/
theorem resetOf_inv {cfg : Config} (ws : List InputWord) (h : cfg.valid = true) :
    (State.resetOf cfg ws).Inv where
  cfgValid := h
  pcountLegal := show (0 : BitVec 2) ≠ 3 by decide
  dispLegal := show dispNone ≤ dispUnrecognized by decide
  txStatusLegal := show txNone ≠ 3 by decide
  txlenLegal := show 0 ∈ [0, 6, 7, 11] by decide
  bufWf := Memory.wf_nil cfg.maxLen
  txbufWf := Memory.wf_nil txCapacity
  inv1 := fun _ _ => ⟨rfl, fun _ hi => absurd hi (Nat.not_lt_zero _)⟩
  inv2 := fun _ harmed => absurd harmed (show (0 : BitVec 2) ≠ 2 by decide)
  inv3 := nofun
  inv4 := ⟨nofun, fun _ => Nat.le_refl 0⟩
  shadow := fun hlen => absurd rfl hlen

/-- Settles O37: by the clauses of the invariant, and the reference configuration is legal. -/
theorem resetStateHasTheInvariant : Obligations.ResetStateHasTheInvariant :=
  ⟨fun _ ws h => resetOf_inv ws h, resetOf_inv [] (by decide)⟩

/-! ### The outputs -/

/-- The data port reads the transmitter's elements, and of the shadow the cell at `txidx` alone (R161). -/
theorem txData_congr {s t : State} (hbusy : t.txbusy = s.txbusy)
    (hcell : t.txbuf.read t.txidx = s.txbuf.read s.txidx) : txData t = txData s := by
  unfold txData
  rw [hbusy, hcell]

/-- Settles O51: the data port is the only output that reads a hidden element, the cell being sent. -/
theorem hostSeesNoHiddenElement : Obligations.HostSeesNoHiddenElement := by
  intro s w m n p l x hcell
  have hdata : txData { s with buf := m, length := n, pcount := p, txlen := l, txbuf := x } = txData s :=
    txData_congr rfl hcell
  unfold outputs
  rw [hdata]
  rfl

end Sys2Proof.Machine
end

section
/-! The command classes as a table (30_encoding.md R69, R80): each class with the byte it stands for. Under a
legal configuration the bytes are distinct, so a byte has at most one class; decoder, encoder and opcode table
are each read off this table. -/

namespace Sys2Proof

/-! ### The table -/

/-- The command classes but DISPATCH.OTHER with their bytes, in the order in which the decoder tests them. -/
def Config.commandClasses (cfg : Config) : List (Instr × Byte) :=
  [(.dispatchTransferFreq, cfg.cmdTransferFreq), (.dispatchGetFreq, cfg.cmdGetFreq),
   (.dispatchTransferMode, cfg.cmdTransferMode), (.dispatchGetMode, cfg.cmdGetMode),
   (.dispatchSetFreq, cfg.cmdSetFreq), (.dispatchSetMode, cfg.cmdSetMode),
   (.dispatchStatusOk, statusOk), (.dispatchStatusNg, statusNg), (.dispatchStatusCollision, statusCollision)]

/-- The FRAME_CMD rows of the opcode table are the named classes. -/
theorem commandRows_eq_map (cfg : Config) :
    commandRows cfg = cfg.commandClasses.map fun r => (r.1.mnemonic, r.2) := rfl

/-- A search among the classes tests the first one, as a row of the decoder does, and then the others. -/
theorem find_class_cons (cmd : Byte) (r : Instr × Byte) (l : List (Instr × Byte)) (i : Instr) :
    (((r :: l).find? fun q => q.2 == cmd).map Prod.fst).getD i =
      if cmd = r.2 then r.1 else ((l.find? fun q => q.2 == cmd).map Prod.fst).getD i := by
  by_cases h : cmd = r.2 <;> simp [h, eq_comm (a := r.2)]

/-- The decoder answers the first class with the byte, and DISPATCH.OTHER where there is none. -/
theorem decodeCommand_eq_find (cfg : Config) (cmd : Byte) :
    decodeCommand cfg cmd =
      ((cfg.commandClasses.find? fun r => r.2 == cmd).map Prod.fst).getD (.dispatchOther cmd) := by
  simp only [Config.commandClasses, find_class_cons]
  rfl

/-- The bytes of the classes are the six codes and the status codes. -/
theorem commandClasses_bytes_perm (cfg : Config) :
    (cfg.commandClasses.map Prod.snd).Perm cfg.namedCommands := by
  have hswap : [cfg.cmdGetFreq, cfg.cmdTransferMode].Perm [cfg.cmdTransferMode, cfg.cmdGetFreq] :=
    List.Perm.swap _ _ _
  exact (hswap.append_right _).cons _

/-- No named class is DISPATCH.OTHER. -/
theorem ne_dispatchOther_of_mem_commandClasses {cfg : Config} {r : Instr × Byte}
    (hr : r ∈ cfg.commandClasses) (cmd : Byte) : r.1 ≠ .dispatchOther cmd := by
  simp only [Config.commandClasses, List.mem_cons, List.not_mem_nil, or_false] at hr
  obtain rfl | rfl | rfl | rfl | rfl | rfl | rfl | rfl | rfl := hr <;> exact nofun

/-- R7(b) and R7(c): no byte names two classes. -/
theorem namedCommands_nodup {cfg : Config} (h : cfg.valid = true) : cfg.namedCommands.Nodup := by
  simp only [Config.valid, Bool.and_eq_true] at h
  obtain ⟨⟨⟨⟨-, hdistinct⟩, hordinary⟩, -⟩, -⟩ := h
  have hstatus : [statusOk, statusNg, statusCollision].Nodup := by decide
  have hreserved : ∀ b ∈ [statusOk, statusNg, statusCollision], b ∈ reservedBytes := by decide
  refine List.nodup_append.2 ⟨of_decide_eq_true hdistinct, hstatus, fun c hc b hb hcb => ?_⟩
  have hnot : (!reservedBytes.contains c) = true := List.all_eq_true.1 hordinary c hc
  rw [hcb, List.contains_iff_mem.2 (hreserved b hb)] at hnot
  cases hnot

/-- Under a legal configuration a class is the only one with its byte. -/
theorem filter_commandClasses {cfg : Config} (h : cfg.valid = true) {r : Instr × Byte}
    (hr : r ∈ cfg.commandClasses) : (cfg.commandClasses.filter fun q => q.2 == r.2) = [r] := by
  have hnodup : (cfg.commandClasses.map Prod.snd).Nodup :=
    (commandClasses_bytes_perm cfg).nodup_iff.2 (namedCommands_nodup h)
  have hsame : (cfg.commandClasses.filter fun q => q.2 == r.2) = cfg.commandClasses.filter (· == r) :=
    List.filter_congr fun q hq => by
      rw [Bool.eq_iff_iff, beq_iff_eq, beq_iff_eq]
      exact ⟨List.inj_on_of_nodup_map hnodup hq hr, congrArg Prod.snd⟩
  rw [hsame, List.filter_beq, List.count_eq_one_of_mem (List.Nodup.of_map _ hnodup) hr, List.replicate_one]

/-- No named class has a byte outside the named ones. -/
theorem filter_commandClasses_eq_nil {cfg : Config} {cmd : Byte} (h : cmd ∉ cfg.namedCommands) :
    (cfg.commandClasses.filter fun q => q.2 == cmd) = [] := by
  refine List.filter_eq_nil_iff.2 fun q hq hcmd => h ?_
  rw [← beq_iff_eq.1 hcmd]
  exact (commandClasses_bytes_perm cfg).mem_iff.1 (List.mem_map_of_mem hq)

/-! ### The decoder of the command byte -/

/-- The decoder answers a class of the byte, or DISPATCH.OTHER where the byte names none. -/
theorem decodeCommand_cases (cfg : Config) (cmd : Byte) :
    (decodeCommand cfg cmd, cmd) ∈ cfg.commandClasses ∨
      (cmd ∉ cfg.namedCommands ∧ decodeCommand cfg cmd = .dispatchOther cmd) := by
  rw [decodeCommand_eq_find]
  cases hfind : cfg.commandClasses.find? fun r => r.2 == cmd with
  | some r =>
    have hbyte := List.find?_some hfind
    have hcmd : r.2 = cmd := beq_iff_eq.1 hbyte
    exact .inl (hcmd ▸ List.mem_of_find?_eq_some hfind)
  | none =>
    refine .inr ⟨fun hmem => ?_, rfl⟩
    obtain ⟨q, hq, hcmd⟩ := List.mem_map.1 ((commandClasses_bytes_perm cfg).mem_iff.2 hmem)
    exact List.find?_eq_none.1 hfind q hq (beq_iff_eq.2 hcmd)

/-- Under a legal configuration the decoder reads the byte of a class as that class. -/
theorem decodeCommand_of_mem {cfg : Config} (h : cfg.valid = true) {i : Instr} {cmd : Byte}
    (hi : (i, cmd) ∈ cfg.commandClasses) : decodeCommand cfg cmd = i := by
  rw [decodeCommand_eq_find, ← List.head?_filter, filter_commandClasses h hi]
  rfl

/-- The decoder reads a byte of no named class as DISPATCH.OTHER. -/
theorem decodeCommand_of_not_named {cfg : Config} {cmd : Byte} (h : cmd ∉ cfg.namedCommands) :
    decodeCommand cfg cmd = .dispatchOther cmd := by
  rw [decodeCommand_eq_find, ← List.head?_filter, filter_commandClasses_eq_nil h]
  rfl

/-- DISPATCH.OTHER is well formed with the bytes that name no class, and with no other (R80). -/
theorem wellFormed_dispatchOther_iff (cfg : Config) (cmd : Byte) :
    (Instr.dispatchOther cmd).wellFormed cfg = true ↔ cmd ∉ cfg.namedCommands := by
  rw [Instr.wellFormed, Bool.not_eq_true', ← Bool.not_eq_true, List.contains_iff_mem]

end Sys2Proof
end

section
/-! The decoder of the input word (30_encoding.md R74, R80, 45_scheduler.md R155): what it answers in each
context, which bits each row of the opcode table looks at, and what it reads from the encoder's words. -/

namespace Sys2Proof

/-! ### The priority of R155 -/

/-- The decoded operation with the conditions that select it, in the order of their priority. -/
theorem decodeInput_cases (cfg : Config) (c : Context) (w : InputWord) :
    (inRst w = true ∧ decodeInput cfg c w = .reset) ∨
    (inRst w = false ∧
      ((∃ cmd, c.complete = true ∧ c.accepted = some cmd ∧ decodeInput cfg c w = decodeCommand cfg cmd) ∨
       (c.complete = true ∧ c.accepted = none ∧ decodeInput cfg c w = .dispatch) ∨
       (c.complete = false ∧ inRxValid w = true ∧ decodeInput cfg c w = .rxByte (inRxData w)) ∨
       (c.complete = false ∧ inRxValid w = false ∧ c.txbusy = true ∧ inTxAck w = true ∧
          decodeInput cfg c w = .txByte (inTxOk w)) ∨
       (c.complete = false ∧ inRxValid w = false ∧ c.txbusy = true ∧ inTxAck w = false ∧
          decodeInput cfg c w = .idleTxwait) ∨
       (c.complete = false ∧ inRxValid w = false ∧ c.txbusy = false ∧ inCmdValid w = true ∧
          decodeInput cfg c w = decodeIssue (inCmdOp w) (inCmdArg w)) ∨
       (c.complete = false ∧ inRxValid w = false ∧ c.txbusy = false ∧ inCmdValid w = false ∧
          decodeInput cfg c w = .idle))) := by
  obtain ⟨complete, txbusy, accepted⟩ := c
  unfold decodeInput
  cases inRst w with
  | true => exact .inl ⟨rfl, rfl⟩
  | false =>
    refine .inr ⟨rfl, ?_⟩
    cases complete with
    | true => cases accepted <;> simp
    | false =>
      cases inRxValid w with
      | true => simp
      | false =>
        cases txbusy with
        | true => cases inTxAck w <;> simp
        | false => cases inCmdValid w <;> simp

/-- The four commands by their code (R74). -/
theorem decodeIssue_cases (op : BitVec 2) (arg : BitVec 32) :
    (op = 0 ∧ decodeIssue op arg = .issueReqFreq arg) ∨
    (op = 1 ∧ decodeIssue op arg = .issueReqMode arg) ∨
    (op = 2 ∧ decodeIssue op arg = .issueWriteFreq arg) ∨
    (op = 3 ∧ decodeIssue op arg = .issueWriteMode arg) := by
  have hop : ∀ op : BitVec 2, op = 0 ∨ op = 1 ∨ op = 2 ∨ op = 3 := by decide
  obtain rfl | rfl | rfl | rfl := hop op
  · exact .inl ⟨rfl, rfl⟩
  · exact .inr (.inl ⟨rfl, rfl⟩)
  · exact .inr (.inr (.inl ⟨rfl, rfl⟩))
  · exact .inr (.inr (.inr ⟨rfl, rfl⟩))

/-! ### Decoding the encoder's words -/

/-- On an accepted frame the zero word selects the class of the frame's command byte. -/
theorem decodeInput_accepted (cfg : Config) (busy : Bool) (cmd : Byte) :
    decodeInput cfg ⟨true, busy, some cmd⟩ 0 = decodeCommand cfg cmd := rfl

/-- The command byte of a well-formed class selects that class: it is the class's byte in the table, or it names
no class. -/
theorem decodeCommand_encode {cfg : Config} {i : Instr} {cmd : Byte} (hcfg : cfg.valid = true)
    (hi : i.wellFormed cfg = true) (he : encode cfg i = .command cmd) : decodeCommand cfg cmd = i := by
  cases i
  case dispatchOther c =>
    obtain rfl := Encoding.command.inj he
    exact decodeCommand_of_not_named ((wellFormed_dispatchOther_iff cfg c).1 hi)
  case dispatchTransferFreq | dispatchGetFreq | dispatchTransferMode | dispatchGetMode | dispatchSetFreq |
      dispatchSetMode | dispatchStatusOk | dispatchStatusNg | dispatchStatusCollision =>
    obtain rfl := Encoding.command.inj he
    exact decodeCommand_of_mem hcfg (by simp [Config.commandClasses])
  all_goals cases he

/-- The context of a command class is an accepted frame with the class's byte. -/
theorem contextFor_of_encode_eq_command {cfg : Config} {i : Instr} {cmd : Byte}
    (he : encode cfg i = .command cmd) : contextFor cfg i = ⟨true, false, some cmd⟩ := by
  cases i <;> cases he <;> rfl

/-- The input word of an operation selects it in the context of its row. -/
theorem decodeInput_encode {cfg : Config} {i : Instr} {w : InputWord} (he : encode cfg i = .input w) :
    decodeInput cfg (contextFor cfg i) w = i := by
  cases i <;> cases he
  case reset => exact decodeInput_reset cfg _
  case rxByte b => exact decodeInput_rx cfg _ _ b
  case txByte ok => exact decodeInput_tx cfg _ ok
  case issueReqFreq arg => exact decodeInput_encodeIssue cfg _ 0 arg
  case issueReqMode arg => exact decodeInput_encodeIssue cfg _ 1 arg
  case issueWriteFreq arg => exact decodeInput_encodeIssue cfg _ 2 arg
  case issueWriteMode arg => exact decodeInput_encodeIssue cfg _ 3 arg
  case dispatch | idle | idleTxwait => rfl

end Sys2Proof

namespace Sys2Proof.Machine

/-- Settles O53: an input word selects its operation in every legal configuration, and a command byte its class
because no other class has the byte. -/
theorem decodeOfEncodeIsTheInstruction : Obligations.DecodeOfEncodeIsTheInstruction := by
  intro cfg i hcfg hi
  have hcommand (c) (he : encode cfg i = .command c) := decodeCommand_encode hcfg hi he
  refine ⟨?_, fun c he => ?_⟩
  · cases he : encode cfg i with
    | input w => exact decodeInput_encode he
    | command c => exact hcommand c he
  · rw [contextFor_of_encode_eq_command he, decodeInput_accepted, hcommand c he]

/-- Settles O55: by the evaluation of the decoder on each word. -/
theorem wordsOfTheSpecDecode : Obligations.WordsOfTheSpecDecode := by
  unfold Obligations.WordsOfTheSpecDecode
  decide

end Sys2Proof.Machine
end

section
/-! The rows of the opcode table (30_encoding.md R80): the bits that each mask looks at, and that the rows which
match a word in a context are the decoded one alone. -/

namespace Sys2Proof

/-! ### The bits of the rows -/

/-- A word has the value of a row under its mask exactly when it has it at each bit of the mask. -/
theorem and_eq_iff_bits (bits : List Nat) {m v : InputWord} (w : InputWord)
    (hm : ∀ i < 47, m.getLsbD i = decide (i ∈ bits)) (hv : v &&& m = v) :
    w &&& m = v ↔ ∀ i ∈ bits, w.getLsbD i = v.getLsbD i := by
  constructor
  · intro h i hi
    by_cases hlt : i < 47
    · rw [← h, BitVec.getLsbD_and, hm i hlt, decide_eq_true hi, Bool.and_true]
    · rw [BitVec.getLsbD_of_ge w i (not_lt.1 hlt), BitVec.getLsbD_of_ge v i (not_lt.1 hlt)]
  · intro h
    refine BitVec.eq_of_getLsbD_eq fun i hlt => ?_
    rw [← hv, BitVec.getLsbD_and, BitVec.getLsbD_and, hm i hlt]
    by_cases hi : i ∈ bits
    · rw [h i hi]
    · rw [decide_eq_false hi, Bool.and_false, Bool.and_false]

section rows
variable (w : InputWord)

theorem rowBits_reset : w &&& 0x1 = 0x1 ↔ inRst w = true := by
  rw [and_eq_iff_bits [0] w (by decide) (by decide)]
  simp [inRst]

theorem rowBits_dispatch : w &&& 0x1 = 0x0 ↔ inRst w = false := by
  rw [and_eq_iff_bits [0] w (by decide) (by decide)]
  simp [inRst]

theorem rowBits_rxByte : w &&& 0x3 = 0x2 ↔ inRst w = false ∧ inRxValid w = true := by
  rw [and_eq_iff_bits [0, 1] w (by decide) (by decide)]
  simp [inRst, inRxValid]

theorem rowBits_txByte : w &&& 0x200000000003 = 0x200000000000 ↔
    inRst w = false ∧ inRxValid w = false ∧ inTxAck w = true := by
  rw [and_eq_iff_bits [0, 1, 45] w (by decide) (by decide)]
  simp [inRst, inRxValid, inTxAck]

theorem rowBits_idleTxwait : w &&& 0x200000000003 = 0x0 ↔
    inRst w = false ∧ inRxValid w = false ∧ inTxAck w = false := by
  rw [and_eq_iff_bits [0, 1, 45] w (by decide) (by decide)]
  simp [inRst, inRxValid, inTxAck]

theorem rowBits_idle : w &&& 0x403 = 0x0 ↔
    inRst w = false ∧ inRxValid w = false ∧ inCmdValid w = false := by
  rw [and_eq_iff_bits [0, 1, 10] w (by decide) (by decide)]
  simp [inRst, inRxValid, inCmdValid]

/-- The rows of the four commands look at `cmd_valid` and `cmd_op` besides (R80). -/
theorem rowBits_issue (op : BitVec 2) {v : InputWord} (hv : v = 0x400 ||| op.zeroExtend 47 <<< 11) :
    w &&& 0x1C03 = v ↔
      inRst w = false ∧ inRxValid w = false ∧ inCmdValid w = true ∧ inCmdOp w = op := by
  have hmask : v &&& 0x1C03 = v := by
    subst hv
    revert op
    decide
  have hop : inCmdOp w = op ↔ w.getLsbD 11 = op.getLsbD 0 ∧ w.getLsbD 12 = op.getLsbD 1 := by
    constructor
    · rintro rfl
      simp [inCmdOp]
    · rintro ⟨hlow, hhigh⟩
      ext i hi
      interval_cases i
      · simpa [inCmdOp] using hlow
      · simpa [inCmdOp] using hhigh
  rw [and_eq_iff_bits [0, 1, 10, 11, 12] w (by decide) hmask, hop, hv]
  simp [inRst, inRxValid, inCmdValid]

/-! ### The matching rows -/

/-- R155's priority and the masks and state columns of the IN47 rows agree: without an accepted frame the
decoded row matches, and each other row asks for a bit or a condition that does not hold. -/
theorem inputRows_meeting (cfg : Config) (c : Context) (hnone : c.accepted = none) :
    (inputRows.filter fun r => r.meets c w).map InputRow.mnemonic = [(decodeInput cfg c w).mnemonic] := by
  have hreqFreq := rowBits_issue w 0 (v := 0x400) (by decide)
  have hreqMode := rowBits_issue w 1 (v := 0xC00) (by decide)
  have hwriteFreq := rowBits_issue w 2 (v := 0x1400) (by decide)
  have hwriteMode := rowBits_issue w 3 (v := 0x1C00) (by decide)
  simp only [inputRows, List.filter_cons, List.filter_nil, InputRow.meets, condMet, rowBits_reset,
    rowBits_dispatch, rowBits_rxByte, rowBits_txByte, hreqFreq, hreqMode, hwriteFreq, hwriteMode,
    rowBits_idleTxwait, rowBits_idle]
  obtain ⟨hrst, hi⟩ | ⟨hrst, ⟨cmd, -, hsome, -⟩ | ⟨hcomplete, -, hi⟩ | ⟨hcomplete, hrx, hi⟩ |
    ⟨hcomplete, hrx, hbusy, hack, hi⟩ | ⟨hcomplete, hrx, hbusy, hack, hi⟩ |
    ⟨hcomplete, hrx, hbusy, hcmd, hi⟩ | ⟨hcomplete, hrx, hbusy, hcmd, hi⟩⟩ := decodeInput_cases cfg c w
  · simp [hrst, hi, Instr.mnemonic]
  · rw [hnone] at hsome
    cases hsome
  · simp [hrst, hcomplete, hi, Instr.mnemonic]
  · simp [hrst, hcomplete, hrx, hi, Instr.mnemonic]
  · simp [hrst, hcomplete, hrx, hbusy, hack, hi, Instr.mnemonic]
  · simp [hrst, hcomplete, hrx, hbusy, hack, hi, Instr.mnemonic]
  · rw [hi]
    obtain ⟨hop, hissue⟩ | ⟨hop, hissue⟩ | ⟨hop, hissue⟩ | ⟨hop, hissue⟩ :=
      decodeIssue_cases (inCmdOp w) (inCmdArg w) <;>
      rw [hissue] <;> simp [hrst, hcomplete, hrx, hbusy, hcmd, hop, Instr.mnemonic]
  · simp [hrst, hcomplete, hrx, hbusy, hcmd, hi, Instr.mnemonic]

end rows

/-- Under a legal configuration a command byte matches the row of its class alone, and no row if it names no
class. -/
theorem commandRows_matching {cfg : Config} (hcfg : cfg.valid = true) (cmd : Byte) :
    ((commandRows cfg).filter fun r => r.2 == cmd).map Prod.fst =
      if decodeCommand cfg cmd = .dispatchOther cmd then [] else [(decodeCommand cfg cmd).mnemonic] := by
  have hrows : ((commandRows cfg).filter fun r => r.2 == cmd).map Prod.fst =
      (cfg.commandClasses.filter fun r => r.2 == cmd).map fun r => r.1.mnemonic := by
    rw [commandRows_eq_map, List.filter_map, List.map_map]
    rfl
  rw [hrows]
  obtain hmem | ⟨hnot, hother⟩ := decodeCommand_cases cfg cmd
  · rw [filter_commandClasses hcfg hmem, if_neg (ne_dispatchOther_of_mem_commandClasses hmem cmd)]
    rfl
  · rw [filter_commandClasses_eq_nil hnot, if_pos hother]
    rfl

end Sys2Proof

namespace Sys2Proof.Machine

/-- Settles O54: for the input word by the priority of R155, for the command byte by the table of classes. -/
theorem exactlyOneTableRowMatches : Obligations.ExactlyOneTableRowMatches :=
  ⟨fun cfg c w => inputRows_meeting w cfg c, fun _ cmd hcfg => commandRows_matching hcfg cmd⟩

end Sys2Proof.Machine
end

section
/-! Where an operation is performed and where it is refused (30_encoding.md R78, R80, 45_scheduler.md R155): the
enable of each operation is the state column of its row, and a step selects only an operation whose column
holds. -/

namespace Sys2Proof.Machine

/-! ### The kinds of the decoded operation -/

/-- A command byte decodes to a DISPATCH of some class, whatever the configuration. -/
theorem isDispatch_decodeCommand (cfg : Config) (cmd : Byte) : isDispatch (decodeCommand cfg cmd) = true := by
  obtain hmem | ⟨-, hother⟩ := decodeCommand_cases cfg cmd
  · revert hmem
    generalize decodeCommand cfg cmd = i
    cases i <;> simp [Config.commandClasses, isDispatch]
  · rw [hother]
    rfl

/-- A command code decodes to one of the four commands. -/
theorem isIssue_decodeIssue (op : BitVec 2) (arg : BitVec 32) : isIssue (decodeIssue op arg) = true := by
  obtain ⟨-, h⟩ | ⟨-, h⟩ | ⟨-, h⟩ | ⟨-, h⟩ := decodeIssue_cases op arg <;> rw [h] <;> rfl

theorem isDispatch_decodeIssue (op : BitVec 2) (arg : BitVec 32) : isDispatch (decodeIssue op arg) = false := by
  obtain ⟨-, h⟩ | ⟨-, h⟩ | ⟨-, h⟩ | ⟨-, h⟩ := decodeIssue_cases op arg <;> rw [h] <;> rfl

theorem isIssue_decodeCommand (cfg : Config) (cmd : Byte) : isIssue (decodeCommand cfg cmd) = false := by
  have hd := isDispatch_decodeCommand cfg cmd
  revert hd
  cases decodeCommand cfg cmd <;> simp [isDispatch, isIssue]

/-- A step's operation is a DISPATCH exactly where a frame is complete and RESET does not come first. -/
theorem isDispatch_decodeInput (cfg : Config) (c : Context) (w : InputWord) :
    isDispatch (decodeInput cfg c w) = (!inRst w && c.complete) := by
  obtain ⟨hrst, hi⟩ | ⟨hrst, ⟨cmd, hcomplete, -, hi⟩ | ⟨hcomplete, -, hi⟩ | ⟨hcomplete, -, hi⟩ |
    ⟨hcomplete, -, -, -, hi⟩ | ⟨hcomplete, -, -, -, hi⟩ | ⟨hcomplete, -, -, -, hi⟩ |
    ⟨hcomplete, -, -, -, hi⟩⟩ := decodeInput_cases cfg c w
  · simp [hi, hrst, isDispatch]
  · simp [hi, hrst, hcomplete, isDispatch_decodeCommand]
  · simp [hi, hrst, hcomplete, isDispatch]
  · simp [hi, hcomplete, isDispatch]
  · simp [hi, hcomplete, isDispatch]
  · simp [hi, hcomplete, isDispatch]
  · simp [hi, hcomplete, isDispatch_decodeIssue]
  · simp [hi, hcomplete, isDispatch]

/-- A step's operation is a command exactly where the block is idle and is offered nothing before it (R155). -/
theorem isIssue_decodeInput (cfg : Config) (c : Context) (w : InputWord) :
    isIssue (decodeInput cfg c w) =
      (!inRst w && !c.complete && !inRxValid w && !c.txbusy && inCmdValid w) := by
  obtain ⟨hrst, hi⟩ | ⟨hrst, ⟨cmd, hcomplete, -, hi⟩ | ⟨hcomplete, -, hi⟩ | ⟨hcomplete, hrx, hi⟩ |
    ⟨hcomplete, hrx, hbusy, -, hi⟩ | ⟨hcomplete, hrx, hbusy, -, hi⟩ | ⟨hcomplete, hrx, hbusy, hcmd, hi⟩ |
    ⟨hcomplete, hrx, hbusy, hcmd, hi⟩⟩ := decodeInput_cases cfg c w
  · simp [hi, hrst, isIssue]
  · simp [hi, hcomplete, isIssue_decodeCommand]
  · simp [hi, hcomplete, isIssue]
  · simp [hi, hrx, isIssue]
  · simp [hi, hbusy, isIssue]
  · simp [hi, hbusy, isIssue]
  · simp [hi, hrst, hcomplete, hrx, hbusy, hcmd, isIssue_decodeIssue]
  · simp [hi, hcmd, isIssue]

/-! ### The decoded operation is well formed -/

/-- DISPATCH.OTHER is the one operation that some operand makes ill formed (R80). -/
theorem wellFormed_of_ne_dispatchOther {i : Instr} (cfg : Config) (h : ∀ cmd, i ≠ .dispatchOther cmd) :
    i.wellFormed cfg = true := by
  cases i
  case dispatchOther cmd => exact absurd rfl (h cmd)
  all_goals rfl

/-- The decoder answers DISPATCH.OTHER only for a byte that names no class. -/
theorem wellFormed_decodeCommand (cfg : Config) (cmd : Byte) :
    (decodeCommand cfg cmd).wellFormed cfg = true := by
  obtain hmem | ⟨hnot, hother⟩ := decodeCommand_cases cfg cmd
  · exact wellFormed_of_ne_dispatchOther cfg (ne_dispatchOther_of_mem_commandClasses hmem)
  · rw [hother]
    exact (wellFormed_dispatchOther_iff cfg cmd).2 hnot

/-- The decoder answers only well-formed operations: on an accepted frame by its command byte, and elsewhere no
DISPATCH.OTHER at all. -/
theorem wellFormed_decodeInput (cfg : Config) (c : Context) (w : InputWord) :
    (decodeInput cfg c w).wellFormed cfg = true := by
  obtain ⟨-, hi⟩ | ⟨-, ⟨cmd, -, -, hi⟩ | ⟨-, -, hi⟩ | ⟨-, -, hi⟩ | ⟨-, -, -, -, hi⟩ | ⟨-, -, -, -, hi⟩ |
    ⟨-, -, -, -, hi⟩ | ⟨-, -, -, -, hi⟩⟩ := decodeInput_cases cfg c w <;> rw [hi]
  case inr.inl => exact wellFormed_decodeCommand cfg cmd
  case inr.inr.inr.inr.inr.inr.inl =>
    refine wellFormed_of_ne_dispatchOther cfg fun cmd hother => ?_
    have hissue := isIssue_decodeIssue (inCmdOp w) (inCmdArg w)
    rw [hother] at hissue
    cases hissue
  all_goals rfl

/-- Settles O34: the decoder answers only well-formed operations, and a step is its operation after the word is
taken. -/
theorem stepRunsTheDecodedInstruction : Obligations.StepRunsTheDecodedInstruction := by
  rintro s _ rfl
  exact ⟨wellFormed_decodeInput s.cfg (contextOf s) _, step_eq s⟩

/-! ### The enable of an operation is its row's state column -/

/-- The three checks of R121, cell by cell. -/
theorem frameAccepted_iff (s : State) : frameAccepted s = true ↔ s.Accepted := by
  simp only [frameAccepted, structureOk, isEcho, fromRig, Bool.and_eq_true, Bool.not_eq_true',
    bne_iff_ne, beq_iff_eq, beq_eq_false_iff_ne, and_assoc]
  rfl

theorem classEnabled_iff (s : State) : classEnabled s = true ↔ s.complete = true ∧ s.Accepted := by
  rw [classEnabled, Bool.and_eq_true, frameAccepted_iff]

theorem issueEnabled_iff (s : State) : issueEnabled s = true ↔ s.complete = false ∧ s.txbusy = false := by
  simp [issueEnabled]

/-- TX_BYTE is refused nothing once it is performed: it writes a byte, or faults (log 10). -/
theorem transmit_ne_refused (ok : Bool) (s : State) (r : Refusal) : transmit ok s ≠ .refused r := by
  unfold transmit
  cases presentedByte s <;> exact nofun

/-- Every operation but RESET is performed where its row's state column holds, with an effect that is no
refusal. -/
theorem exec_eq_perform_selectable {i : Instr} (hi : i ≠ .reset) (s : State) :
    ∃ en k, exec i s = perform en s k ∧ (en = true ↔ SelectableIn i s) ∧ k ≠ .refused .notEnabled := by
  cases i
  case reset => exact absurd rfl hi
  case dispatch => exact ⟨_, _, rfl, Iff.rfl, nofun⟩
  case rxByte b => exact ⟨_, _, rfl, by simp [SelectableIn], nofun⟩
  case txByte ok => exact ⟨_, _, rfl, by simp [SelectableIn], transmit_ne_refused ok s _⟩
  case issueReqFreq | issueReqMode | issueWriteFreq | issueWriteMode =>
    exact ⟨_, _, rfl, issueEnabled_iff s, nofun⟩
  case idleTxwait | idle => exact ⟨_, _, rfl, by simp [SelectableIn], nofun⟩
  all_goals exact ⟨_, _, rfl, classEnabled_iff s, nofun⟩

/-- A performed operation is refused as not enabled only for want of its enable, in a sound state. -/
theorem perform_eq_notEnabled_iff {en : Bool} {s : State} {k : Result} (hk : k ≠ .refused .notEnabled) :
    perform en s k = .refused .notEnabled ↔ s.Sound ∧ en = false := by
  unfold perform State.Sound
  cases s.cfg.valid <;> cases illegal s <;> cases en <;> simp [hk]

/-- An operation is refused as not enabled exactly in the sound states outside its row's state column (R78). -/
theorem exec_eq_notEnabled_iff (i : Instr) (s : State) :
    exec i s = .refused .notEnabled ↔ s.Sound ∧ ¬ SelectableIn i s := by
  by_cases hi : i = .reset
  · subst hi
    have hreset : exec .reset s ≠ .refused .notEnabled := by
      change execReset s ≠ _
      unfold execReset
      split <;> exact nofun
    exact iff_of_false hreset fun h => h.2 trivial
  · obtain ⟨en, k, hexec, hen, hk⟩ := exec_eq_perform_selectable hi s
    rw [hexec, perform_eq_notEnabled_iff hk, ← hen, Bool.not_eq_true]

/-! ### A step selects within the state column -/

theorem selectableIn_of_isDispatch {i : Instr} {s : State} (hi : isDispatch i = true)
    (hcomplete : s.complete = true) (haccepted : s.Accepted) : SelectableIn i s := by
  cases i
  case dispatch => exact hcomplete
  case reset | rxByte | txByte | issueReqFreq | issueReqMode | issueWriteFreq | issueWriteMode | idleTxwait |
      idle => cases hi
  all_goals exact ⟨hcomplete, haccepted⟩

theorem selectableIn_of_isIssue {i : Instr} {s : State} (hi : isIssue i = true)
    (hcomplete : s.complete = false) (hbusy : s.txbusy = false) : SelectableIn i s := by
  cases i
  case issueReqFreq | issueReqMode | issueWriteFreq | issueWriteMode => exact ⟨hcomplete, hbusy⟩
  all_goals cases hi

/-- The priority of R155 asks for every condition of the selected row's state column. -/
theorem selectableIn_selected (s : State) : SelectableIn (selected s) s := by
  obtain ⟨-, hi⟩ | ⟨-, ⟨hcomplete, hacc, hi⟩ | ⟨hcomplete, -, hi⟩ | ⟨hcomplete, -, hi⟩ |
    ⟨hcomplete, -, hbusy, -, hi⟩ | ⟨hcomplete, -, hbusy, -, hi⟩ | ⟨hcomplete, -, hbusy, -, hi⟩ |
    ⟨hcomplete, -, hbusy, -, hi⟩⟩ := selected_cases s <;> rw [hi]
  · trivial
  · exact selectableIn_of_isDispatch (isDispatch_decodeCommand _ _) hcomplete ((frameAccepted_iff s).1 hacc)
  · exact hcomplete
  · exact hcomplete
  · exact ⟨hcomplete, hbusy⟩
  · exact ⟨hcomplete, hbusy⟩
  · exact selectableIn_of_isIssue (isIssue_decodeIssue _ _) hcomplete hbusy
  · exact ⟨hcomplete, hbusy⟩

/-- No state column reads the words to come. -/
theorem selectableIn_afterSample (i : Instr) (s : State) : SelectableIn i (afterSample s) ↔ SelectableIn i s := by
  cases i <;> rfl

/-- Settles O42: in a sound state the state column alone decides, and a step's operation has it. -/
theorem onlySelectableOperationsRun : Obligations.OnlySelectableOperationsRun := by
  refine ⟨fun i s hsound => ?_, fun s h => ?_⟩
  · rw [exec_eq_notEnabled_iff, and_iff_right hsound]
  · rw [step_eq, exec_eq_notEnabled_iff, selectableIn_afterSample] at h
    exact h.2 (selectableIn_selected s)

end Sys2Proof.Machine
end

section
/-! Operations with the same effect: a command class and the whole DISPATCH (30_encoding.md R80, 42_dispatcher.md
R121), and commands whose `cmd_arg` differ in ignored bits (30_encoding.md R75). -/

namespace Sys2Proof.Machine

/-! ### A command class and the whole DISPATCH -/

/-- The branch of a command byte: the frequency branch, the mode branch, or none (R129 to R131). -/
def commandBranch (cmd : Byte) (s : State) : State :=
  if cmd = s.cfg.cmdTransferFreq ∨ cmd = s.cfg.cmdGetFreq then storeFrequency s
  else if cmd = s.cfg.cmdTransferMode ∨ cmd = s.cfg.cmdGetMode then storeMode s
  else leaveUnrecognized s

/-- The class of a command byte takes the byte's branch. -/
theorem exec_decodeCommand (cmd : Byte) (s : State) :
    exec (decodeCommand s.cfg cmd) s = perform (classEnabled s) s (.next (commandBranch cmd s)) := by
  unfold decodeCommand commandBranch
  by_cases htf : cmd = s.cfg.cmdTransferFreq
  · rw [if_pos htf, if_pos (.inl htf)]
    rfl
  by_cases hgf : cmd = s.cfg.cmdGetFreq
  · rw [if_neg htf, if_pos hgf, if_pos (.inr hgf)]
    rfl
  rw [if_neg htf, if_neg hgf, if_neg (not_or.2 ⟨htf, hgf⟩)]
  by_cases htm : cmd = s.cfg.cmdTransferMode
  · rw [if_pos htm, if_pos (.inl htm)]
    rfl
  by_cases hgm : cmd = s.cfg.cmdGetMode
  · rw [if_neg htm, if_pos hgm, if_pos (.inr hgm)]
    rfl
  rw [if_neg htm, if_neg hgm, if_neg (not_or.2 ⟨htm, hgm⟩)]
  -- the six classes that are left, and any other byte, are unrecognized
  split_ifs <;> rfl

/-- On an accepted frame the whole DISPATCH takes the branch of the frame's command byte. -/
theorem dispatchFrame_of_accepted {s : State} (h : frameAccepted s = true) :
    dispatchFrame s = commandBranch (frameCmd s) s := by
  unfold commandBranch
  obtain ⟨hstructure, -⟩ | ⟨-, hecho, -⟩ | ⟨-, -, hrig, -⟩ | ⟨-, ⟨hf, hbranch⟩ | ⟨hf, hm, hbranch⟩ |
    ⟨hf, hm, hbranch⟩⟩ := dispatchFrame_cases s
  · simp [frameAccepted, hstructure] at h
  · simp [frameAccepted, hecho] at h
  · simp [frameAccepted, hrig] at h
  · rw [if_pos hf, hbranch]
  · rw [if_neg (not_or.2 hf), if_pos hm, hbranch]
  · rw [if_neg (not_or.2 hf), if_neg (not_or.2 hm), hbranch]

/-- Settles O11: on an accepted frame both take the branch of `frame(4)`, and both are enabled. -/
theorem commandClassDoesWhatDispatchDoes : Obligations.CommandClassDoesWhatDispatchDoes := by
  intro s hcomplete haccepted
  have hen : classEnabled s = s.complete :=
    ((classEnabled_iff s).2 ⟨hcomplete, haccepted⟩).trans hcomplete.symm
  calc exec (decodeCommand s.cfg (frameCmd s)) s
      = perform (classEnabled s) s (.next (commandBranch (frameCmd s) s)) := exec_decodeCommand _ s
    _ = perform s.complete s (.next (dispatchFrame s)) := by
      rw [hen, dispatchFrame_of_accepted ((frameAccepted_iff s).2 haccepted)]

/-! ### Commands with the same frame -/

/-- A command is performed with its whole effect (R140, R144, R145). -/
theorem exec_issueInstr (op : CmdOp) (arg : BitVec 32) (s : State) :
    exec (issueInstr op arg) s = perform (issueEnabled s) s (.next (issued op arg s)) := by
  cases op with
  | reqFreq => rw [← issue_reqFreq_eq_issued]; rfl
  | reqMode => rw [← issue_reqMode_eq_issued]; rfl
  | writeFreq => rw [← issue_writeFreq_setFreq_eq_issued]; rfl
  | writeMode => rw [← issue_writeMode_setMode_eq_issued]; rfl

/-- A command's operand reaches the state through its frame and the label alone. -/
theorem exec_issueInstr_of_sameFrame {op : CmdOp} {a b : BitVec 32} {s t : State}
    (hframe : buildFrame s.cfg op a = buildFrame s.cfg op b) (h : exec (issueInstr op a) s = .next t) :
    exec (issueInstr op b) s = .next { t with label := .issue op b } := by
  rw [exec_issueInstr, perform_eq_next_iff] at h
  obtain ⟨hsound, hen, hnext⟩ := h
  obtain rfl := Host.Outcome.next.inj hnext
  rw [exec_issueInstr, perform_of_enabled hsound hen, issued, issued, hframe]

/-- Settles O26: the frames of REQ_FREQ and REQ_MODE hold no operand, and that of WRITE_MODE the low byte. -/
theorem commandsIgnoreTheirUnusedOperandBits : Obligations.CommandsIgnoreTheirUnusedOperandBits := by
  intro s t a b
  refine ⟨exec_issueInstr_of_sameFrame (op := .reqFreq) rfl,
    exec_issueInstr_of_sameFrame (op := .reqMode) rfl, fun h hlow => ?_⟩
  have hframe : buildFrame s.cfg .writeMode a = buildFrame s.cfg .writeMode b :=
    congrArg (fun m => outboundFrame s.cfg s.cfg.cmdSetMode [m]) hlow
  exact exec_issueInstr_of_sameFrame hframe h

end Sys2Proof.Machine
end

section
/-! Where a trace line is well formed (30_encoding.md R78): where the word of the line selects the operation that
the line names. -/

namespace Sys2Proof.Machine

section lines
variable (s : State)

/-! ### The states in which a line's word selects the line's operation -/

/-- The context of a state, as the equations of the decoder write it. -/
theorem exists_contextOf_eq {s : State} {complete busy : Bool} (hcomplete : s.complete = complete)
    (hbusy : s.txbusy = busy) : ∃ a, contextOf s = ⟨complete, busy, a⟩ := by
  subst hcomplete hbusy
  exact ⟨_, rfl⟩

/-- A word that does not ask for RESET selects a DISPATCH exactly where a frame is complete. -/
theorem complete_eq_of_decodeInput {s : State} {w : InputWord} {i : Instr} (hrst : inRst w = false)
    (h : decodeInput s.cfg (contextOf s) w = i) : s.complete = isDispatch i := by
  rw [← h, isDispatch_decodeInput, hrst]
  rfl

theorem decodeInput_zero_isDispatch_iff :
    isDispatch (decodeInput s.cfg (contextOf s) 0) = true ↔ s.complete = true := by
  rw [← complete_eq_of_decodeInput (w := 0) rfl rfl]

theorem decodeInput_rx_iff (b : Byte) :
    decodeInput s.cfg (contextOf s) (packInput false false 0 0 false b true false) = .rxByte b ↔
      s.complete = false := by
  refine ⟨fun h => complete_eq_of_decodeInput (inRst_packInput ..) h, fun hcomplete => ?_⟩
  obtain ⟨a, hc⟩ := exists_contextOf_eq hcomplete rfl
  rw [hc, decodeInput_rx]

theorem decodeInput_tx_iff (ok : Bool) :
    decodeInput s.cfg (contextOf s) (packInput ok true 0 0 false 0 false false) = .txByte ok ↔
      s.complete = false ∧ s.txbusy = true := by
  constructor
  · intro h
    have hcomplete : s.complete = false := complete_eq_of_decodeInput (inRst_packInput ..) h
    refine ⟨hcomplete, ?_⟩
    by_contra hbusy
    obtain ⟨a, hc⟩ := exists_contextOf_eq hcomplete (Bool.eq_false_of_not_eq_true hbusy)
    -- without a send the acknowledgement is ignored
    rw [hc] at h
    simp [decodeInput, inRst_packInput, inRxValid_packInput, inCmdValid_packInput] at h
  · rintro ⟨hcomplete, hbusy⟩
    obtain ⟨a, hc⟩ := exists_contextOf_eq hcomplete hbusy
    rw [hc, decodeInput_tx]

theorem decodeInput_issue_iff (op : BitVec 2) (arg : BitVec 32) :
    decodeInput s.cfg (contextOf s) (encodeIssue op arg) = decodeIssue op arg ↔
      s.complete = false ∧ s.txbusy = false := by
  constructor
  · intro h
    have hissue := isIssue_decodeInput s.cfg (contextOf s) (encodeIssue op arg)
    rw [h, isIssue_decodeIssue] at hissue
    simp only [eq_comm (a := true), Bool.and_eq_true, Bool.not_eq_true'] at hissue
    obtain ⟨⟨⟨⟨-, hcomplete⟩, -⟩, hbusy⟩, -⟩ := hissue
    exact ⟨hcomplete, hbusy⟩
  · rintro ⟨hcomplete, hbusy⟩
    obtain ⟨a, hc⟩ := exists_contextOf_eq hcomplete hbusy
    rw [hc, decodeInput_encodeIssue]

/-- The zero word selects the IDLE row of the transmitter's state, unless a frame is complete. -/
theorem decodeInput_zero_isIdle_iff :
    (decodeInput s.cfg (contextOf s) 0 = .idle ∨ decodeInput s.cfg (contextOf s) 0 = .idleTxwait) ↔
      s.complete = false := by
  constructor
  · rintro (h | h) <;> exact complete_eq_of_decodeInput rfl h
  · intro hcomplete
    cases hbusy : s.txbusy with
    | true =>
      obtain ⟨a, hc⟩ := exists_contextOf_eq hcomplete hbusy
      exact .inr (by rw [hc]; rfl)
    | false =>
      obtain ⟨a, hc⟩ := exists_contextOf_eq hcomplete hbusy
      exact .inl (by rw [hc]; rfl)

/-! ### The lines -/

/-- A line is well formed where its operand is in range and its word selects the operation it names (R78). -/
theorem wellFormedAt_iff (o : TraceOp) :
    o.wellFormedAt s = true ↔
      o.inRange = true ∧ o.names (decodeInput s.cfg (contextOf s) o.word) = true :=
  Bool.and_eq_true_iff

/-- For a line whose operand is in range, only the selected operation is in question. -/
theorem wellFormedAt_iff_of_inRange {o : TraceOp} (h : o.inRange = true) :
    o.wellFormedAt s = true ↔ o.names (decodeInput s.cfg (contextOf s) o.word) = true := by
  rw [wellFormedAt_iff, and_iff_right h]

/-- A line that names one operation alone. -/
theorem wellFormedAt_iff_selects {o : TraceOp} {i : Instr} (h : o.inRange = true)
    (hnames : ∀ j, o.names j = (j == i)) :
    o.wellFormedAt s = true ↔ decodeInput s.cfg (contextOf s) o.word = i := by
  rw [wellFormedAt_iff_of_inRange s h, hnames, beq_iff_eq]

end lines

/-- Settles O56: each line by the states in which its word selects its operation. -/
theorem traceLinesAreWellFormedWhereTheSpecSays : Obligations.TraceLinesAreWellFormedWhereTheSpecSays := by
  intro s
  refine ⟨?reset, ?dispatch, fun b => ?rx, fun ok => ?tx, ?issueReqFreq, ?issueReqMode,
    fun f => ?issueWriteFreq, fun m => ?issueWriteMode, ?idle⟩
  case reset => exact (wellFormedAt_iff_selects s rfl fun _ => rfl).2 (decodeInput_reset s.cfg _)
  case dispatch => exact (wellFormedAt_iff_of_inRange s rfl).trans (decodeInput_zero_isDispatch_iff s)
  case rx => exact (wellFormedAt_iff_selects s rfl fun _ => rfl).trans (decodeInput_rx_iff s b)
  case tx => exact (wellFormedAt_iff_selects s rfl fun _ => rfl).trans (decodeInput_tx_iff s ok)
  case issueReqFreq => exact (wellFormedAt_iff_selects s rfl fun _ => rfl).trans (decodeInput_issue_iff s 0 0)
  case issueReqMode => exact (wellFormedAt_iff_selects s rfl fun _ => rfl).trans (decodeInput_issue_iff s 1 0)
  case issueWriteFreq =>
    exact (wellFormedAt_iff s _).trans
      (and_congr decide_eq_true_iff (beq_iff_eq.trans (decodeInput_issue_iff s 2 (BitVec.ofNat 32 f))))
  case issueWriteMode =>
    exact (wellFormedAt_iff_selects s rfl fun _ => rfl).trans (decodeInput_issue_iff s 3 (m.zeroExtend 32))
  case idle =>
    rw [wellFormedAt_iff_of_inRange s rfl, TraceOp.names, Bool.or_eq_true, beq_iff_eq, beq_iff_eq]
    exact decodeInput_zero_isIdle_iff s

end Sys2Proof.Machine
end

section
/-! The codec as arithmetic (40_codec.md): the nibbles of a payload, least weight first, are the digits of its
exact decimal value; decoding takes that value modulo 2^32, and encoding lists the decimal digits. -/

namespace Sys2Proof.Machine

/-! ### Bytes and their nibbles -/

theorem toNat_highNibble (b : Byte) : (highNibble b).toNat = b.toNat / 16 := by
  rw [highNibble, BitVec.extractLsb'_toNat, Nat.shiftRight_eq_div_pow]
  omega

theorem toNat_lowNibble (b : Byte) : (lowNibble b).toNat = b.toNat % 16 := by
  rw [lowNibble, BitVec.extractLsb'_toNat, Nat.shiftRight_zero]

@[simp] theorem highNibble_append (hi lo : BitVec 4) : highNibble (hi ++ lo) = hi :=
  BitVec.extractLsb'_append_eq_left

@[simp] theorem lowNibble_append (hi lo : BitVec 4) : lowNibble (hi ++ lo) = lo :=
  BitVec.extractLsb'_append_eq_right

theorem eq_of_nibbles {a b : Byte} (hhigh : highNibble a = highNibble b) (hlow : lowNibble a = lowNibble b) :
    a = b := by
  have hhigh := congrArg BitVec.toNat hhigh
  have hlow := congrArg BitVec.toNat hlow
  rw [toNat_highNibble, toNat_highNibble] at hhigh
  rw [toNat_lowNibble, toNat_lowNibble] at hlow
  exact BitVec.eq_of_toNat_eq (by omega)

/-! ### A payload as a decimal number -/

/-- The nibbles of a payload from weight `10^0` to weight `10^9`: the read order of R91, reversed. -/
def Payload.nibbles (p : Payload) : List (BitVec 4) := (readOrder.map p.nibble).reverse

theorem Payload.nibbles_eq (p : Payload) :
    p.nibbles = [lowNibble p.p0, highNibble p.p0, lowNibble p.p1, highNibble p.p1, lowNibble p.p2,
      highNibble p.p2, lowNibble p.p3, highNibble p.p3, lowNibble p.p4, highNibble p.p4] := rfl

theorem Payload.map_toNat_nibbles (p : Payload) :
    p.nibbles.map BitVec.toNat =
      [p.p0.toNat % 16, p.p0.toNat / 16, p.p1.toNat % 16, p.p1.toNat / 16, p.p2.toNat % 16,
        p.p2.toNat / 16, p.p3.toNat % 16, p.p3.toNat / 16, p.p4.toNat % 16, p.p4.toNat / 16] := by
  simp only [nibbles_eq, List.map_cons, List.map_nil, toNat_lowNibble, toNat_highNibble]

/-- The exact value of a payload has its nibbles as digits, whatever they are (R90, R93). -/
theorem Payload.exact_eq_ofDigits (p : Payload) : p.exact = Nat.ofDigits 10 (p.nibbles.map BitVec.toNat) := by
  simp only [map_toNat_nibbles, Nat.ofDigits_cons, Nat.ofDigits_nil, exact]
  omega

theorem Payload.nibbles_injective : Function.Injective Payload.nibbles := by
  rintro ⟨p0, p1, p2, p3, p4⟩ ⟨q0, q1, q2, q3, q4⟩ h
  simp only [nibbles_eq, List.cons.injEq] at h
  obtain ⟨hlow0, hhigh0, hlow1, hhigh1, hlow2, hhigh2, hlow3, hhigh3, hlow4, hhigh4, -⟩ := h
  rw [eq_of_nibbles hhigh0 hlow0, eq_of_nibbles hhigh1 hlow1, eq_of_nibbles hhigh2 hlow2,
    eq_of_nibbles hhigh3 hlow3, eq_of_nibbles hhigh4 hlow4]

theorem Payload.Bcd.nibbles_lt {p : Payload} (h : p.Bcd) : ∀ d ∈ p.nibbles.map BitVec.toNat, d < 10 := by
  obtain ⟨⟨hhigh0, hlow0⟩, ⟨hhigh1, hlow1⟩, ⟨hhigh2, hlow2⟩, ⟨hhigh3, hlow3⟩, hhigh4, hlow4⟩ := h
  rw [map_toNat_nibbles]
  simp only [List.forall_mem_cons, Nat.lt_succ_iff]
  exact ⟨hlow0, hhigh0, hlow1, hhigh1, hlow2, hhigh2, hlow3, hhigh3, hlow4, hhigh4, nofun⟩

/-- Decimal nibbles are determined by the value: ten digits have one value each. -/
theorem Payload.eq_of_exact_eq {p q : Payload} (hp : p.Bcd) (hq : q.Bcd) (h : p.exact = q.exact) : p = q := by
  rw [exact_eq_ofDigits, exact_eq_ofDigits] at h
  have hdigits : p.nibbles.map BitVec.toNat = q.nibbles.map BitVec.toNat :=
    Nat.ofDigits_inj_of_len_eq (by decide) (by simp [nibbles_eq]) hp.nibbles_lt hq.nibbles_lt h
  exact nibbles_injective ((List.map_inj_right fun _ _ => BitVec.eq_of_toNat_eq).1 hdigits)

/-! ### Decoding -/

theorem toNat_accumulate (f : Freq) (n : BitVec 4) :
    (accumulate f n).toNat = (n.toNat + 10 * f.toNat) % 2 ^ 32 := by
  rw [accumulate, BitVec.toNat_add, BitVec.toNat_mul, BitVec.toNat_setWidth]
  change (10 * f.toNat % 2 ^ 32 + n.toNat % 2 ^ 32) % 2 ^ 32 = _
  omega

/-- Reducing at each step of the accumulation or once at the end gives the same result (R92). -/
theorem toNat_foldr_accumulate (ns : List (BitVec 4)) :
    (ns.foldr (fun n f => accumulate f n) 0).toNat = Nat.ofDigits 10 (ns.map BitVec.toNat) % 2 ^ 32 := by
  induction ns with
  | nil => rfl
  | cons n ns ih =>
    rw [List.foldr_cons, toNat_accumulate, ih, List.map_cons, Nat.ofDigits_cons]
    omega

/-- R90 and R92 in closed form. -/
theorem toNat_dec (p : Payload) : (dec p).toNat = p.exact % 2 ^ 32 := by
  have hfold : dec p = p.nibbles.foldr (fun n f => accumulate f n) 0 := by
    rw [Payload.nibbles, ← List.foldl_eq_foldr_reverse, List.foldl_map, dec]
  rw [hfold, toNat_foldr_accumulate, Payload.exact_eq_ofDigits]

/-- Settles O3: by the closed form, and the examples of R90 and R92 evaluated. -/
theorem decodeIsTheDecimalSumModulo32Bits : Obligations.DecodeIsTheDecimalSumModulo32Bits :=
  ⟨toNat_dec, by decide, by decide, by decide, by decide⟩

/-! ### Encoding -/

theorem digit_lt (f : Freq) (i : Nat) : digit f i < 10 := Nat.mod_lt _ (by decide)

/-- The digit of weight `10^i` stands `i` places before the last of the ten. -/
theorem digit_nine_sub (f : Freq) {i : Nat} (hi : i ≤ 9) : digit f (9 - i) = f.toNat / 10 ^ i % 10 := by
  rw [digit, Nat.sub_sub_self hi]

theorem toNat_digitNibble (f : Freq) (i : Nat) : (digitNibble f i).toNat = digit f i :=
  Nat.mod_eq_of_lt ((digit_lt f i).trans (by decide))

theorem toNat_encByte (f : Freq) (k : Nat) :
    (encByte f k).toNat = 16 * digit f (8 - 2 * k) + digit f (9 - 2 * k) := by
  have hlow : digit f (9 - 2 * k) < 2 ^ 4 := (digit_lt f _).trans (by decide)
  rw [encByte, BitVec.toNat_append, toNat_digitNibble, toNat_digitNibble,
    ← Nat.shiftLeft_add_eq_or_of_lt hlow, Nat.shiftLeft_eq, Nat.mul_comm]

/-- Payload byte `k` holds the digits of weight `10^(2k+1)` and `10^(2k)` (R94). -/
theorem toNat_encByte_weights (f : Freq) {k : Nat} (hk : k ≤ 4) :
    (encByte f k).toNat = 16 * (f.toNat / 10 ^ (2 * k + 1) % 10) + f.toNat / 10 ^ (2 * k) % 10 := by
  rw [toNat_encByte, show 8 - 2 * k = 9 - (2 * k + 1) by omega, digit_nine_sub f (by omega),
    digit_nine_sub f (by omega)]

/-- Settles O4: each byte by the weights of its two digits, and the examples of R94 evaluated. -/
theorem encodePacksDecimalDigitPairs : Obligations.EncodePacksDecimalDigitPairs := by
  refine ⟨fun f => ⟨?_, toNat_encByte_weights f (k := 1) (by decide),
    toNat_encByte_weights f (k := 2) (by decide), toNat_encByte_weights f (k := 3) (by decide),
    toNat_encByte_weights f (k := 4) (by decide)⟩, by decide, by decide, by decide⟩
  simpa [enc] using toNat_encByte_weights f (k := 0) (by decide)

theorem bcdByte_encByte (f : Freq) (k : Nat) : bcdByte (encByte f k) := by
  have hhigh := digit_lt f (8 - 2 * k)
  have hlow := digit_lt f (9 - 2 * k)
  rw [bcdByte, toNat_encByte]
  omega

theorem enc_bcd (f : Freq) : (enc f).Bcd :=
  ⟨bcdByte_encByte f 0, bcdByte_encByte f 1, bcdByte_encByte f 2, bcdByte_encByte f 3, bcdByte_encByte f 4⟩

/-- Every 32-bit value has at most ten decimal digits (R95). -/
theorem freq_lt_ten_digits (f : Freq) : f.toNat < 10 ^ 10 :=
  f.isLt.trans (by decide)

/-- The lowest `n` digits of `x` in base `b` are its value modulo `b ^ n`. -/
theorem ofDigits_range_div_mod (b n x : Nat) :
    Nat.ofDigits b ((List.range n).map fun i => x / b ^ i % b) = x % b ^ n := by
  induction n generalizing x with
  | zero => simp [Nat.mod_one]
  | succ n ih =>
    have htail : (List.range n).map ((fun i => x / b ^ i % b) ∘ Nat.succ) =
        (List.range n).map fun i => x / b / b ^ i % b :=
      List.map_congr_left fun i _ => by simp [Nat.pow_succ', Nat.div_div_eq_div_mul]
    rw [List.range_succ_eq_map, List.map_cons, List.map_map, htail, Nat.ofDigits_cons, ih,
      Nat.pow_succ', Nat.mod_mul, Nat.pow_zero, Nat.div_one]

/-- The nibbles of an encoding are the ten decimal digits (R94). -/
theorem map_toNat_nibbles_enc (f : Freq) :
    (enc f).nibbles.map BitVec.toNat = (List.range 10).map fun i => f.toNat / 10 ^ i % 10 := by
  simp only [Payload.nibbles_eq, enc, encByte, lowNibble_append, highNibble_append, List.map_cons,
    List.map_nil, toNat_digitNibble]
  rfl

/-- Ten digits suffice, so an encoding has the frequency as its exact value. -/
theorem exact_enc (f : Freq) : (enc f).exact = f.toNat := by
  rw [Payload.exact_eq_ofDigits, map_toNat_nibbles_enc, ofDigits_range_div_mod,
    Nat.mod_eq_of_lt (freq_lt_ten_digits f)]

/-! ### The round trips -/

/-- The exact value of an encoding is a 32-bit number, which the reduction of R92 leaves as it is. -/
theorem dec_enc (f : Freq) : dec (enc f) = f :=
  BitVec.eq_of_toNat_eq (by rw [toNat_dec, exact_enc, Nat.mod_eq_of_lt f.isLt])

/-- Settles O1: the round trip. -/
theorem decodeOfEncodeIsIdentity : Obligations.DecodeOfEncodeIsIdentity := dec_enc

/-- A payload survives exactly when it is an encoding: decimal nibbles with a 32-bit value (R97). -/
theorem enc_dec_eq_self_iff (p : Payload) : enc (dec p) = p ↔ p.Bcd ∧ p.exact < 2 ^ 32 := by
  constructor
  · intro h
    rw [← h, exact_enc]
    exact ⟨enc_bcd _, (dec p).isLt⟩
  · rintro ⟨hbcd, hlt⟩
    have hexact : (enc (dec p)).exact = p.exact := by rw [exact_enc, toNat_dec, Nat.mod_eq_of_lt hlt]
    exact Payload.eq_of_exact_eq (enc_bcd _) hbcd hexact

/-- Settles O2: the encodings are the payloads that survive, every frequency is reached from its encoding, and
the two payloads that decode to 10 are evaluated. -/
theorem encodeOfDecodeIsIdentityOnCanonicalPayloads :
    Obligations.EncodeOfDecodeIsIdentityOnCanonicalPayloads :=
  ⟨enc_dec_eq_self_iff, fun f => ⟨enc f, dec_enc f⟩, by decide, by decide⟩

/-! ### Delimiters and status codes -/

theorem le_of_bcdByte {b : Byte} (h : bcdByte b) : b ≤ 0x99 := by
  obtain ⟨hhigh, hlow⟩ := h
  rw [BitVec.le_def]
  change b.toNat ≤ 0x99
  omega

/-- Every delimiter and status code is above the greatest byte with decimal nibbles (R98). -/
theorem not_reserved_of_bcdByte {b : Byte} (h : bcdByte b) : b ∉ [0xFE, 0xFD, 0xFA, 0xFB, 0xFC] := by
  have habove : ∀ c ∈ ([0xFE, 0xFD, 0xFA, 0xFB, 0xFC] : List Byte), 0x99 < c := by decide
  exact fun hmem => BitVec.not_le.2 (habove b hmem) (le_of_bcdByte h)

theorem bcdByte_of_mem_freqPayload {f : Freq} {b : Byte} (h : b ∈ freqPayload f) : bcdByte b := by
  obtain ⟨h0, h1, h2, h3, h4⟩ := enc_bcd f
  simp only [freqPayload, List.mem_cons, List.not_mem_nil, or_false] at h
  obtain rfl | rfl | rfl | rfl | rfl := h <;> assumption

/-- The two leading digits of a 32-bit number are at most 42 (R95). -/
theorem enc_p4_le (f : Freq) : (enc f).p4 ≤ 0x42 := by
  have hvalue : (enc f).p4.toNat = 16 * (f.toNat / 10 ^ 9 % 10) + f.toNat / 10 ^ 8 % 10 :=
    toNat_encByte_weights f (k := 4) (by decide)
  have hfirst : f.toNat / 10 ^ 9 % 10 = f.toNat / 10 ^ 9 := Nat.mod_eq_of_lt (by omega)
  have hpair : f.toNat / 10 ^ 8 ≤ 42 := by omega
  rw [hfirst] at hvalue
  rw [BitVec.le_def]
  change (enc f).p4.toNat ≤ 0x42
  omega

/-- Settles O5: the nibbles of an encoding are decimal digits, and no byte of two decimal digits is reserved. -/
theorem encodedBytesAreNeverDelimiters : Obligations.EncodedBytesAreNeverDelimiters :=
  ⟨fun f => ⟨freq_lt_ten_digits f, enc_bcd f, enc_p4_le f⟩,
    fun _ h => ⟨le_of_bcdByte h, not_reserved_of_bcdByte h⟩,
    fun _ _ h => not_reserved_of_bcdByte (bcdByte_of_mem_freqPayload h)⟩

end Sys2Proof.Machine
end

section
/-! The codec in DISPATCH and in ISSUE WRITE_FREQ (42_dispatcher.md R129, 43_builders.md R144): what the
frequency branch stores of an encoded payload, and what the shadow holds of a written frequency. -/

namespace Sys2Proof.Machine

/-- On an accepted frame with a frequency command, DISPATCH stores the decoded payload (R129). -/
theorem exec_dispatch_of_frequencyFrame {s : State} (hs : s.Sound) (hcomplete : s.complete = true)
    (haccepted : s.Accepted) (hcmd : frameCmd s = s.cfg.cmdTransferFreq ∨ frameCmd s = s.cfg.cmdGetFreq) :
    exec .dispatch s = .next (dispatched .okFreq s) :=
  calc exec .dispatch s
      = .next (dispatchFrame s) := perform_of_enabled hs hcomplete _
    _ = .next (commandBranch (frameCmd s) s) := by
      rw [dispatchFrame_of_accepted ((frameAccepted_iff s).2 haccepted)]
    _ = .next (dispatched .okFreq s) := by rw [commandBranch, if_pos hcmd, storeFrequency_eq_dispatched]

/-- Settles O19: the frequency branch stores the decoded payload, and the sentinel survives the round trip. -/
theorem storedFrequencyMayEqualTheSentinel : Obligations.StoredFrequencyMayEqualTheSentinel := by
  intro s hs hcomplete haccepted hcmd hpayload
  refine ⟨_, exec_dispatch_of_frequencyFrame hs hcomplete haccepted hcmd, ?_, rfl⟩
  change dec s.payload = s.cfg.freqSentinel
  rw [hpayload, dec_enc]

/-- After a command the shadow holds its frame below the frame's length (R140). -/
theorem read_issued_txbuf {s : State} (hwf : s.txbuf.wf txCapacity) (op : CmdOp) (arg : BitVec 32) {a : Nat}
    (ha : a < (buildFrame s.cfg op arg).length) :
    (issued op arg s).txbuf.read a = (buildFrame s.cfg op arg).getD a unlistedByte := by
  have hfits : 0 + (buildFrame s.cfg op arg).length ≤ txCapacity := by
    rw [Nat.zero_add]
    exact buildFrame_length_le s.cfg op arg
  have hread := Memory.read_writeFrom (buildFrame s.cfg op arg) hwf hfits a
  rwa [if_pos ⟨Nat.zero_le a, by omega⟩, Nat.sub_zero] at hread

/-- Cells 5 to 9 of the shadow hold the encoded operand of WRITE_FREQ (R144). -/
theorem issued_writeFreq_payload {s : State} (hwf : s.txbuf.wf txCapacity) (f : Freq) :
    let m := (issued .writeFreq f s).txbuf
    (⟨m.read 5, m.read 6, m.read 7, m.read 8, m.read 9⟩ : Payload) = enc f := by
  have hcell : ∀ a < 11, (issued .writeFreq f s).txbuf.read a =
      (buildFrame s.cfg .writeFreq f).getD a unlistedByte := fun a ha =>
    read_issued_txbuf hwf .writeFreq f (by rwa [buildFrame_length])
  simp only [hcell 5 (by decide), hcell 6 (by decide), hcell 7 (by decide), hcell 8 (by decide),
    hcell 9 (by decide)]
  rfl

/-- Settles O25: the shadow holds the encoding, which decodes to the operand, and WRITE_FREQ invalidates. -/
theorem writtenFrequencyDecodesFromTheShadow : Obligations.WrittenFrequencyDecodesFromTheShadow := by
  intro s t f hwf h
  obtain ⟨-, -, hnext⟩ := (perform_eq_next_iff _ _ _ _).1 ((exec_issueInstr .writeFreq f s).symm.trans h)
  obtain rfl := Host.Outcome.next.inj hnext
  exact ⟨(congrArg dec (issued_writeFreq_payload hwf f)).trans (dec_enc f), issued_freq .writeFreq f s⟩

end Sys2Proof.Machine
end

section
/-! The receiver's effects (41_receiver.md R106 to R111): with no complete frame RX_BYTE passes its byte, discards
the frame, or appends the byte, and each effect is one update. -/

namespace Sys2Proof.Machine

/-! ### The three effects -/

/-- The byte is not taken (R106): it is reported, and a terminator completes what there is (R108). -/
def passed (b : Byte) (s : State) : State :=
  { s with pcount := if b = terminator then 0 else s.pcount, complete := b == terminator,
           rxLenErr := false, label := .rx b (b == terminator) false }

/-- The byte is taken and finds no room: the frame is discarded with a length error (R109). -/
def discarded (b : Byte) (s : State) : State :=
  { s with length := 0, pcount := 0, complete := false, rxLenErr := true, label := .rx b false true }

/-- The byte is taken and stored (R107); a terminator completes the frame and disarms the receiver (R108). -/
def appended (b : Byte) (s : State) : State :=
  { s with buf := s.buf.write s.length b, length := s.length + 1,
           pcount := if b = terminator then 0 else if s.pcount = 2 then 2 else s.pcount + 1,
           complete := b == terminator, rxLenErr := false, label := .rx b (b == terminator) false }

/-- Step 3 sets the completion flag exactly for a terminator, where no frame was complete (R108). -/
theorem ite_terminator_eq_beq (b : Byte) : (if b = terminator then true else false) = (b == terminator) := by
  by_cases hb : b = terminator <;> simp [hb]

/-- A taken byte that is no terminator counts while the receiver is unarmed, and leaves it armed otherwise. -/
theorem count_of_taken {b : Byte} {s : State} (h : taken b s) :
    (if b = preamble ∧ s.pcount < 2 then s.pcount + 1 else s.pcount) =
      if s.pcount = 2 then 2 else s.pcount + 1 := by
  obtain ⟨hb, hp⟩ | hp := h
  · rw [if_pos ⟨hb, hp⟩, if_neg (BitVec.ne_of_lt hp)]
  · rw [if_neg fun h => BitVec.ne_of_lt h.2 hp, if_pos hp, hp]

theorem receive_eq_passed {b : Byte} {s : State} (hc : s.complete = false) (h : ¬ taken b s) :
    receive b s = passed b s := by
  obtain ⟨-, hr⟩ | ⟨ht, -, -⟩ | ⟨ht, -, -⟩ := receive_cases b s
  · rw [hr, hc, ite_terminator_eq_beq, passed]
  · exact absurd ht h
  · exact absurd ht h

theorem receive_eq_discarded {b : Byte} {s : State} (h : taken b s) (hfull : s.cfg.maxLen ≤ s.length) :
    receive b s = discarded b s := by
  obtain ⟨hn, -⟩ | ⟨-, -, hr⟩ | ⟨-, hroom, -⟩ := receive_cases b s
  · exact absurd h hn
  · exact hr
  · exact absurd hroom (Nat.not_lt.2 hfull)

theorem receive_eq_appended {b : Byte} {s : State} (hc : s.complete = false) (h : taken b s)
    (hroom : s.length < s.cfg.maxLen) : receive b s = appended b s := by
  obtain ⟨hn, -⟩ | ⟨-, hfull, -⟩ | ⟨-, -, hr⟩ := receive_cases b s
  · exact absurd h hn
  · exact absurd hroom (Nat.not_lt.2 hfull)
  · rw [hr, hc, ite_terminator_eq_beq, count_of_taken h, appended]

/-- Where no frame is complete, RX_BYTE has one of the three effects. -/
theorem receive_effects (b : Byte) {s : State} (hc : s.complete = false) :
    (¬ taken b s ∧ receive b s = passed b s) ∨
    (taken b s ∧ s.cfg.maxLen ≤ s.length ∧ receive b s = discarded b s) ∨
    (taken b s ∧ s.length < s.cfg.maxLen ∧ receive b s = appended b s) := by
  by_cases h : taken b s
  · obtain hfull | hroom := le_or_gt s.cfg.maxLen s.length
    · exact .inr (.inl ⟨h, hfull, receive_eq_discarded h hfull⟩)
    · exact .inr (.inr ⟨h, hroom, receive_eq_appended hc h hroom⟩)
  · exact .inl ⟨h, receive_eq_passed hc h⟩

/-- Of the appended bytes only a terminator disarms the receiver. -/
theorem appended_pcount {b : Byte} (s : State) (hb : b ≠ terminator) :
    (appended b s).pcount = if s.pcount = 2 then 2 else s.pcount + 1 :=
  if_neg hb

/-- In a sound state with no complete frame RX_BYTE completes (R105). -/
theorem exec_rxByte_eq {s : State} (hs : s.Sound) (hc : s.complete = false) (b : Byte) :
    exec (.rxByte b) s = .next (receive b s) :=
  perform_of_enabled hs (by rw [hc]; rfl) _

/-! ### What an appended byte leaves in the buffer -/

theorem read_appended {s : State} (hwf : s.buf.wf s.cfg.maxLen) (b : Byte) (a : Nat) :
    (appended b s).buf.read a = if a = s.length then b else s.buf.read a :=
  Memory.read_write hwf s.length b a

theorem read_appended_last {s : State} (hwf : s.buf.wf s.cfg.maxLen) (b : Byte) :
    (appended b s).buf.read s.length = b :=
  (read_appended hwf b _).trans (if_pos rfl)

theorem read_appended_of_lt {s : State} (hwf : s.buf.wf s.cfg.maxLen) (b : Byte) {a : Nat} (ha : a < s.length) :
    (appended b s).buf.read a = s.buf.read a :=
  (read_appended hwf b a).trans (if_neg (Nat.ne_of_lt ha))

theorem appended_buf_wf {s : State} (hwf : s.buf.wf s.cfg.maxLen) (hroom : s.length < s.cfg.maxLen) (b : Byte) :
    (appended b s).buf.wf s.cfg.maxLen :=
  Memory.write_wf hwf hroom b

/-! ### RX_BYTE as the spec states it -/

/-- Settles O6: each branch of the statement is one of the three effects. -/
theorem rxByteAppendsOverflowsOrPasses : Obligations.RxByteAppendsOverflowsOrPasses := by
  intro s b hs hwf hc
  refine ⟨receive b s, exec_rxByte_eq hs hc b, ?_⟩
  by_cases ht : (b = 0xFE ∧ s.pcount < 2) ∨ s.pcount = 2
  · rw [if_pos ht]
    by_cases hroom : s.length < s.cfg.maxLen
    · rw [if_pos hroom, receive_eq_appended hc ht hroom]
      exact ⟨rfl, read_appended hwf b, rfl, rfl, rfl, rfl⟩
    · rw [if_neg hroom, receive_eq_discarded ht (Nat.not_lt.1 hroom)]
      exact ⟨rfl, fun _ => rfl, rfl, rfl, rfl, rfl⟩
  · rw [if_neg ht, receive_eq_passed hc ht]
    exact ⟨rfl, fun _ => rfl, rfl, rfl, rfl, rfl⟩

end Sys2Proof.Machine
end

section
/-! Every step keeps the invariant (10_state.md R36 to R39). The invariant is a part about the receiver and a part
about the transmitter; an operation writes the elements of one part, and the other part is kept with them. -/

namespace Sys2Proof.Machine

/-! ### The two parts of the invariant -/

/-- The receiver's part: `pcount`, the canonical buffer, and INV1 to INV3. -/
def State.ReceiverInv (s : State) : Prop :=
  s.pcount ≠ 3 ∧ s.buf.wf s.cfg.maxLen ∧ s.Inv1 ∧ s.Inv2 ∧ s.Inv3

/-- The transmitter's part: `tx_status`, `txlen`, the canonical shadow, INV4 and the framed shadow. -/
def State.TransmitterInv (s : State) : Prop :=
  s.txStatus ≠ 3 ∧ s.txlen ∈ [0, 6, 7, 11] ∧ s.txbuf.wf txCapacity ∧ s.Inv4 ∧ s.ShadowFramed

theorem inv_iff (s : State) : s.Inv ↔
    s.cfg.valid = true ∧ s.dispStatus ≤ dispUnrecognized ∧ s.ReceiverInv ∧ s.TransmitterInv where
  mp h := ⟨h.cfgValid, h.dispLegal, ⟨h.pcountLegal, h.bufWf, h.inv1, h.inv2, h.inv3⟩,
    ⟨h.txStatusLegal, h.txlenLegal, h.txbufWf, h.inv4, h.shadow⟩⟩
  mpr := by
    rintro ⟨hcfg, hdisp, ⟨hp, hbuf, h1, h2, h3⟩, ⟨htx, htxlen, htxbuf, h4, hshadow⟩⟩
    exact ⟨hcfg, hp, hdisp, htx, htxlen, hbuf, htxbuf, h1, h2, h3, h4, hshadow⟩

/-- A legal preamble count is below 2, an unarmed receiver, or is 2, an armed one (R23). -/
theorem unarmed_or_armed : ∀ {p : BitVec 2}, p ≠ 3 → p < 2 ∨ p = 2 := by decide

theorem leastMaxLen_le {cfg : Config} (h : cfg.valid = true) : leastMaxLen ≤ cfg.maxLen := by
  simp only [Config.valid, Config.lengthFits, Bool.and_eq_true, decide_eq_true_eq] at h
  exact h.1.1.1.1

/-- A frame never outgrows the buffer, whichever of INV1 to INV3 speaks of it. -/
theorem State.Inv.length_le {s : State} (h : s.Inv) : s.length ≤ s.cfg.maxLen := by
  have hmax : 11 ≤ s.cfg.maxLen := leastMaxLen_le h.cfgValid
  cases hc : s.complete with
  | false =>
    obtain hp | hp := unarmed_or_armed h.pcountLegal
    · obtain ⟨hlen, -⟩ := h.inv1 hc hp
      have := s.pcount.isLt
      omega
    · obtain ⟨-, hlen, -⟩ := h.inv2 hc hp
      exact hlen
  | true =>
    obtain ⟨-, ⟨hlen, -⟩ | ⟨-, hlen, -⟩⟩ := h.inv3 hc
    · omega
    · exact hlen

/-- A state with the invariant is one the model acts in. -/
theorem State.Inv.sound {s : State} (h : s.Inv) : s.Sound := by
  have htxlen : s.txlen ≤ txCapacity :=
    (show ∀ n ∈ [0, 6, 7, 11], n ≤ txCapacity by decide) _ h.txlenLegal
  have htxidx : s.txidx ≤ s.txlen := by
    cases hbusy : s.txbusy with
    | false => exact h.inv4.2 hbusy
    | true => exact (h.inv4.1 hbusy).2.le
  exact ⟨h.cfgValid, (illegal_eq_none_iff s).2 ⟨h.pcountLegal, h.dispLegal, h.txStatusLegal, h.length_le, htxlen,
    htxidx.trans htxlen⟩⟩

/-! ### The receiver's part, by what the receiver is doing -/

theorem receiverInv_of_unarmed {s : State} (hwf : s.buf.wf s.cfg.maxLen) (hc : s.complete = false)
    (hp : s.pcount < 2) (hlen : s.length = s.pcount.toNat) (hcells : ∀ i < s.length, s.buf.read i = preamble) :
    s.ReceiverInv :=
  ⟨fun h3 => absurd (h3 ▸ hp) (by decide), hwf, fun _ _ => ⟨hlen, hcells⟩,
    fun _ h2 => absurd h2 (BitVec.ne_of_lt hp), fun h => absurd (hc.symm.trans h) Bool.false_ne_true⟩

theorem receiverInv_of_armed {s : State} (hwf : s.buf.wf s.cfg.maxLen) (hc : s.complete = false)
    (hp : s.pcount = 2) (h2 : s.Inv2) : s.ReceiverInv :=
  ⟨fun h3 => absurd (hp.symm.trans h3) (by decide), hwf, fun _ h => absurd hp (BitVec.ne_of_lt h), h2,
    fun h => absurd (hc.symm.trans h) Bool.false_ne_true⟩

theorem receiverInv_of_complete {s : State} (hwf : s.buf.wf s.cfg.maxLen) (hc : s.complete = true)
    (hp : s.pcount = 0) (h3 : s.Inv3a ∨ s.Inv3b) : s.ReceiverInv :=
  have hnot : s.complete ≠ false := fun h => Bool.false_ne_true (h.symm.trans hc)
  ⟨fun h => absurd (hp.symm.trans h) (by decide), hwf, fun h => absurd h hnot, fun h => absurd h hnot,
    fun _ => ⟨hp, h3⟩⟩

/-! ### RX_BYTE -/

/-- A byte that is not taken finds an unarmed receiver: a terminator completes its preamble bytes (INV3(a)), and
any other byte leaves it as it is (INV1). -/
theorem passed_receiverInv {b : Byte} {s : State} (hs : s.ReceiverInv) (hc : s.complete = false)
    (ht : ¬ taken b s) : (passed b s).ReceiverInv := by
  obtain ⟨hp3, hwf, h1, -, -⟩ := hs
  have hp : s.pcount < 2 := (unarmed_or_armed hp3).resolve_right fun h => ht (.inr h)
  obtain ⟨hlen, hcells⟩ := h1 hc hp
  by_cases hb : b = terminator
  · have hle : s.length ≤ 1 := by
      rw [hlen]
      exact Nat.le_of_lt_succ hp
    exact receiverInv_of_complete hwf (beq_iff_eq.2 hb) (if_pos hb) (.inl ⟨hle, hcells⟩)
  · have hcount : (passed b s).pcount = s.pcount := if_neg hb
    exact receiverInv_of_unarmed hwf (beq_eq_false_iff_ne.2 hb) (hcount ▸ hp) (hcount ▸ hlen) hcells

/-- A discarded frame leaves an empty unarmed receiver (INV1). -/
theorem discarded_receiverInv {s : State} (hwf : s.buf.wf s.cfg.maxLen) (b : Byte) :
    (discarded b s).ReceiverInv :=
  receiverInv_of_unarmed hwf rfl (show (0 : BitVec 2) < 2 by decide) rfl
    fun _ hi => absurd hi (Nat.not_lt_zero _)

/-- A byte counted by an unarmed receiver is its first or its second preamble byte; the second arms it. -/
theorem appended_receiverInv_of_unarmed {s : State} (hs : s.ReceiverInv) (hc : s.complete = false)
    (hp : s.pcount < 2) (hroom : s.length < s.cfg.maxLen) : (appended preamble s).ReceiverInv := by
  obtain ⟨-, hwf, h1, -, -⟩ := hs
  obtain ⟨hlen, hcells⟩ := h1 hc hp
  have hwf' := appended_buf_wf hwf hroom preamble
  have hcells' : ∀ i < s.length + 1, (appended preamble s).buf.read i = preamble := by
    intro i hi
    obtain hi | rfl := Nat.lt_succ_iff_lt_or_eq.1 hi
    · exact (read_appended_of_lt hwf preamble hi).trans (hcells i hi)
    · exact read_appended_last hwf preamble
  have hcount : (appended preamble s).pcount = s.pcount + 1 :=
    (appended_pcount s (by decide)).trans (if_neg (BitVec.ne_of_lt hp))
  obtain hp0 | hp1 := (show ∀ p : BitVec 2, p < 2 → p = 0 ∨ p = 1 by decide) _ hp
  · rw [hp0] at hcount hlen
    have hlen' : (appended preamble s).length = (appended preamble s).pcount.toNat := by
      rw [hcount]
      exact congrArg (· + 1) hlen
    exact receiverInv_of_unarmed hwf' rfl (hcount ▸ (by decide)) hlen' hcells'
  · rw [hp1] at hcount hlen
    have hlen' : s.length + 1 = 2 := congrArg (· + 1) hlen
    exact receiverInv_of_armed hwf' rfl hcount fun _ _ => ⟨hlen'.ge, hroom, hcells' 0 (by omega),
      hcells' 1 (by omega), fun i hi h2i => absurd (hlen' ▸ hi) (Nat.not_lt.2 h2i)⟩

/-- An armed receiver stores every byte with room: a terminator completes the frame (INV3(b)), and any other byte
lengthens it (INV2). -/
theorem appended_receiverInv_of_armed {s : State} (hs : s.ReceiverInv) (hc : s.complete = false)
    (hp : s.pcount = 2) (hroom : s.length < s.cfg.maxLen) (b : Byte) : (appended b s).ReceiverInv := by
  obtain ⟨-, hwf, -, h2, -⟩ := hs
  obtain ⟨hlen, -, hcell0, hcell1, hcells⟩ := h2 hc hp
  have hwf' := appended_buf_wf hwf hroom b
  have hold : ∀ i < s.length, (appended b s).buf.read i = s.buf.read i :=
    fun i hi => read_appended_of_lt hwf b hi
  have hcell0' := (hold 0 (by omega)).trans hcell0
  have hcell1' := (hold 1 (by omega)).trans hcell1
  have hcells' : ∀ i < s.length, 2 ≤ i → (appended b s).buf.read i ≠ terminator :=
    fun i hi h2i => (hold i hi).symm ▸ hcells i hi h2i
  by_cases hb : b = terminator
  · exact receiverInv_of_complete hwf' (beq_iff_eq.2 hb) (if_pos hb) (.inr ⟨Nat.succ_le_succ hlen, hroom, hcell0',
      hcell1', (read_appended_last hwf b).trans hb, hcells'⟩)
  · have hcount : (appended b s).pcount = 2 := (appended_pcount s hb).trans (if_pos hp)
    refine receiverInv_of_armed hwf' (beq_eq_false_iff_ne.2 hb) hcount fun _ _ =>
      ⟨Nat.le_succ_of_le hlen, hroom, hcell0', hcell1', fun i hi h2i => ?_⟩
    obtain hi | rfl := Nat.lt_succ_iff_lt_or_eq.1 hi
    · exact hcells' i hi h2i
    · rwa [read_appended_last hwf b]

theorem receive_receiverInv {s : State} (hs : s.ReceiverInv) (hc : s.complete = false) (b : Byte) :
    (receive b s).ReceiverInv := by
  obtain ⟨ht, hr⟩ | ⟨-, -, hr⟩ | ⟨⟨rfl, hp⟩ | hp, hroom, hr⟩ := receive_effects b hc <;> rw [hr]
  · exact passed_receiverInv hs hc ht
  · obtain ⟨-, hwf, -⟩ := hs
    exact discarded_receiverInv hwf b
  · exact appended_receiverInv_of_unarmed hs hc hp hroom
  · exact appended_receiverInv_of_armed hs hc hp hroom b

theorem receive_inv {s : State} (hs : s.Inv) (hc : s.complete = false) (b : Byte) : (receive b s).Inv := by
  obtain ⟨hcfg, hdisp, hrx, htx⟩ := (inv_iff s).1 hs
  have hrx' := receive_receiverInv hrx hc b
  obtain ⟨m, n, p, c, e, l, hr⟩ := receive_frame b s
  rw [hr] at hrx' ⊢
  exact (inv_iff _).2 ⟨hcfg, hdisp, hrx', htx⟩

/-! ### DISPATCH -/

/-- DISPATCH consumes a complete frame, which left the receiver unarmed (INV3), and so leaves it empty (INV1). -/
theorem dispatched_inv {s : State} (hs : s.Inv) (hc : s.complete = true) (o : DispOutcome) :
    (dispatched o s).Inv := by
  obtain ⟨hcfg, -, ⟨-, hwf, -, -, h3⟩, htx⟩ := (inv_iff s).1 hs
  obtain ⟨hp, -⟩ := h3 hc
  have hp' : (dispatched o s).pcount = 0 := hp
  have hcode : o.code ≤ dispUnrecognized := by cases o <;> decide
  have hrx : (dispatched o s).ReceiverInv :=
    receiverInv_of_unarmed hwf rfl (hp' ▸ (by decide)) (by rw [hp']; rfl) fun _ hi => absurd hi (Nat.not_lt_zero _)
  exact (inv_iff _).2 ⟨hcfg, hcode, hrx, htx⟩

/-! ### ISSUE and TX_BYTE -/

/-- Every frame begins with the outbound header and ends with the terminator (R141). -/
theorem buildFrame_framed (cfg : Config) (op : CmdOp) (arg : BitVec 32) :
    let f := buildFrame cfg op arg
    f.getD 0 unlistedByte = preamble ∧ f.getD 1 unlistedByte = preamble ∧ f.getD 2 unlistedByte = cfg.rigAddr ∧
      f.getD 3 unlistedByte = ownAddr ∧ f.getD (f.length - 1) unlistedByte = terminator := by
  cases op <;> exact ⟨rfl, rfl, rfl, rfl, rfl⟩

/-- A command puts its whole frame into the shadow and starts at its first byte (INV4). -/
theorem issued_transmitterInv {s : State} (hwf : s.txbuf.wf txCapacity) (op : CmdOp) (arg : BitVec 32) :
    (issued op arg s).TransmitterInv := by
  have hmem := issued_txlen_mem op arg s
  have hlen6 : 6 ≤ (buildFrame s.cfg op arg).length :=
    (show ∀ n ∈ [6, 7, 11], 6 ≤ n by decide) _ hmem
  have hfits : 0 + (buildFrame s.cfg op arg).length ≤ txCapacity := by
    rw [Nat.zero_add]
    exact buildFrame_length_le s.cfg op arg
  have hwf' : (issued op arg s).txbuf.wf txCapacity := Memory.writeFrom_wf _ hwf hfits
  obtain ⟨h0, h1, h2, h3, hlast⟩ := buildFrame_framed s.cfg op arg
  have hcell : ∀ a < (buildFrame s.cfg op arg).length, (issued op arg s).txbuf.read a =
      (buildFrame s.cfg op arg).getD a unlistedByte := fun a ha => read_issued_txbuf hwf op arg ha
  refine ⟨show txNone ≠ 3 by decide, List.mem_cons_of_mem 0 hmem, hwf',
    ⟨fun _ => ⟨hmem, show 0 < (buildFrame s.cfg op arg).length by omega⟩, nofun⟩, fun _ => ?_⟩
  exact ⟨(hcell 0 (by omega)).trans h0, (hcell 1 (by omega)).trans h1, (hcell 2 (by omega)).trans h2,
    (hcell 3 (by omega)).trans h3, (hcell ((buildFrame s.cfg op arg).length - 1) (by omega)).trans hlast⟩

theorem issued_inv {s : State} (hs : s.Inv) (op : CmdOp) (arg : BitVec 32) : (issued op arg s).Inv := by
  obtain ⟨hcfg, hdisp, hrx, ⟨-, -, hwf, -, -⟩⟩ := (inv_iff s).1 hs
  exact (inv_iff _).2 ⟨hcfg, hdisp, hrx, issued_transmitterInv hwf op arg⟩

/-- TX_BYTE moves the index within the frame; it stays busy only where a byte of the frame is left (INV4). -/
theorem transmit_next_inv {ok : Bool} {s t : State} (hs : s.Inv) (hbusy : s.txbusy = true)
    (h : transmit ok s = .next t) : t.Inv := by
  obtain ⟨hcfg, hdisp, hrx, ⟨hstatus, hlen, hwf, h4, hshadow⟩⟩ := (inv_iff s).1 hs
  obtain ⟨hmem, hidx⟩ := h4.1 hbusy
  obtain ⟨-, ⟨-, -, rfl⟩ | ⟨-, hmore, rfl⟩ | ⟨-, rfl⟩⟩ := (transmit_eq_next_iff ok s t).1 h
  · exact (inv_iff _).2 ⟨hcfg, hdisp, hrx, show txDoneOk ≠ 3 by decide, hlen, hwf, ⟨nofun, fun _ => hidx⟩, hshadow⟩
  · have hnext : s.txidx + 1 < s.txlen := lt_of_le_of_ne hidx hmore
    exact (inv_iff _).2 ⟨hcfg, hdisp, hrx, hstatus, hlen, hwf, ⟨fun _ => ⟨hmem, hnext⟩, fun _ => hidx⟩, hshadow⟩
  · exact (inv_iff _).2 ⟨hcfg, hdisp, hrx, show txWriteFail ≠ 3 by decide, hlen, hwf,
      ⟨nofun, fun _ => hidx.le⟩, hshadow⟩

/-! ### IDLE, and the sampling of a word -/

theorem setLabel_inv {s : State} (hs : s.Inv) (l : Label) : (s.setLabel l).Inv :=
  (inv_iff _).2 ((inv_iff s).1 hs)

theorem setInputs_inv {s : State} (hs : s.Inv) (ws : List InputWord) : (s.setInputs ws).Inv :=
  (inv_iff _).2 ((inv_iff s).1 hs)

/-! ### Operations and steps -/

/-- An operation but RESET completes only where its row's state column holds. -/
theorem selectableIn_of_exec_eq_next {i : Instr} {s t : State} (h : exec i s = .next t) (hi : i ≠ .reset) :
    SelectableIn i s := by
  obtain ⟨en, k, hexec, hen, -⟩ := exec_eq_perform_selectable hi s
  obtain ⟨-, he, -⟩ := (perform_eq_next_iff en s k t).1 (hexec.symm.trans h)
  exact hen.1 he

/-- The state column of every DISPATCH row asks for a complete frame. -/
theorem complete_of_isDispatch {i : Instr} {s : State} (hd : isDispatch i = true) (h : SelectableIn i s) :
    s.complete = true := by
  cases i
  case dispatch => exact h
  case reset | rxByte | txByte | issueReqFreq | issueReqMode | issueWriteFreq | issueWriteMode | idleTxwait |
      idle => cases hd
  all_goals exact h.1

/-- Every operation keeps the invariant, by the operation's kind. -/
theorem exec_next_inv {i : Instr} {s t : State} (hs : s.Inv) (h : exec i s = .next t) : t.Inv := by
  by_cases hi : i = .reset
  · subst hi
    obtain rfl := Host.Outcome.next.inj ((exec_reset_eq hs.cfgValid).symm.trans h)
    exact resetOf_inv s.inputs hs.cfgValid
  have hsel := selectableIn_of_exec_eq_next h hi
  obtain ⟨hd, -, o, rfl⟩ | ⟨b, rfl, rfl⟩ | ⟨ok, rfl, htx⟩ | ⟨op, arg, -, rfl⟩ | ⟨-, rfl⟩ :=
    exec_eq_next_kinds h hi
  · exact dispatched_inv hs (complete_of_isDispatch hd hsel) o
  · exact receive_inv hs hsel b
  · exact transmit_next_inv hs hsel.2 htx
  · exact issued_inv hs op arg
  · exact setLabel_inv hs .idle

/-- A step runs its operation after the word is sampled, and both keep the invariant. -/
theorem step_next_inv {s t : State} (hs : s.Inv) (h : step s = .next t) : t.Inv :=
  exec_next_inv (setInputs_inv hs s.inputs.tail) h

/-- Settles O36, by the operation a step runs and its effect. -/
theorem stepKeepsTheInvariant : Obligations.StepKeepsTheInvariant := fun _ _ => step_next_inv

end Sys2Proof.Machine
end

section
/-! The receiver's transition table (41_receiver.md R111): an unarmed receiver counts its preamble bytes and lets the
rest pass, an armed one stores every byte with room. -/

namespace Sys2Proof.Machine

/-- An unarmed receiver holds at most one byte, and every legal buffer has room for the next (R7(a)). -/
theorem State.Inv.room_of_unarmed {s : State} (h : s.Inv) (hc : s.complete = false) (hp : s.pcount < 2) :
    s.length < s.cfg.maxLen := by
  obtain ⟨hlen, -⟩ := h.inv1 hc hp
  have hmax : 11 ≤ s.cfg.maxLen := leastMaxLen_le h.cfgValid
  have hcount : s.pcount.toNat < 2 := hp
  omega

/-- A preamble byte is the one an unarmed receiver takes. -/
theorem not_taken_of_ne_preamble {b : Byte} {s : State} (hp : s.pcount ≠ 2) (hb : b ≠ preamble) : ¬ taken b s :=
  not_or.2 ⟨fun h => hb h.1, hp⟩

/-- Settles O7: each row is the effect of a counted preamble byte, of a byte let pass, or of an armed receiver with
room or without. -/
theorem rxByteFollowsTheTransitionTable : Obligations.RxByteFollowsTheTransitionTable := by
  intro s b hs hc
  have hread := read_appended hs.bufWf b
  have hcounts (hb : b = preamble) (hp : s.pcount < 2) : receive b s = appended b s :=
    receive_eq_appended hc (.inl ⟨hb, hp⟩) (hs.room_of_unarmed hc hp)
  have hpasses (hb : b ≠ preamble) (hp : s.pcount ≠ 2) : receive b s = passed b s :=
    receive_eq_passed hc (not_taken_of_ne_preamble hp hb)
  have hstores (hp : s.pcount = 2) (hroom : s.length < s.cfg.maxLen) : receive b s = appended b s :=
    receive_eq_appended hc (.inr hp) hroom
  have hoverflows (hp : s.pcount = 2) (hfull : s.length = s.cfg.maxLen) : receive b s = discarded b s :=
    receive_eq_discarded (.inr hp) hfull.ge
  refine ⟨receive b s, exec_rxByte_eq hs.sound hc b, ?first, ?terminator0, ?other0, ?second, ?terminator1,
    ?other1, ?completes, ?completesNot, ?stored, ?storedNot⟩
  case first | second =>
    rintro ⟨hp, rfl⟩
    rw [hcounts rfl (by rw [hp]; decide)]
    exact ⟨⟨hread, rfl⟩, by rw [appended_pcount s (by decide), hp]; rfl, rfl, rfl⟩
  case terminator0 | terminator1 =>
    rintro ⟨hp, rfl⟩
    rw [hpasses (by decide) (by rw [hp]; decide)]
    exact ⟨⟨fun _ => rfl, rfl⟩, rfl, rfl, rfl⟩
  case other0 | other1 =>
    rintro ⟨hp, hne, hterm⟩
    rw [hpasses hne (by rw [hp]; decide)]
    exact ⟨⟨fun _ => rfl, rfl⟩, (if_neg hterm).trans hp, beq_eq_false_iff_ne.2 hterm, rfl⟩
  case completes =>
    rintro ⟨hp, rfl, hroom⟩
    rw [hstores hp hroom]
    exact ⟨⟨hread, rfl⟩, rfl, rfl, rfl⟩
  case stored =>
    rintro ⟨hp, hterm, hroom⟩
    rw [hstores hp hroom]
    exact ⟨⟨hread, rfl⟩, (appended_pcount s hterm).trans (if_pos hp), beq_eq_false_iff_ne.2 hterm, rfl⟩
  case completesNot | storedNot =>
    rintro ⟨hp, -, hfull⟩
    rw [hoverflows hp hfull]
    exact ⟨⟨fun _ => rfl, rfl⟩, rfl, rfl, rfl⟩

end Sys2Proof.Machine
end

section
/-! Runs of received bytes (41_receiver.md R115, R116): what an unarmed receiver lets pass, what an armed one stores
until its buffer is full, and the source's framing example. -/

namespace Sys2Proof.Machine

/-! ### Runs with their labels -/

/-- The block goes from `s` to `t` by steps with these labels. -/
inductive RunsTo : List Label → State → State → Prop where
  /-- No step. -/
  | nil (s : State) : RunsTo [] s s
  /-- A step and the rest. -/
  | cons {s u t : State} {ls : List Label} (hstep : step s = .next u) (hrest : RunsTo ls u t) :
      RunsTo (u.label :: ls) s t

theorem RunsTo.append {ls ms : List Label} {s t u : State} (h : RunsTo ls s t) (h' : RunsTo ms t u) :
    RunsTo (ls ++ ms) s u := by
  induction h with
  | nil => exact h'
  | cons hstep _ ih => exact .cons hstep (ih h')

theorem RunsTo.run_eq {ls : List Label} {s t : State} (h : RunsTo ls s t) : run ls.length s = .next t := by
  induction h with
  | nil => rfl
  | cons hstep _ ih => rw [List.length_cons, run, hstep]; exact ih

theorem RunsTo.runLabels_eq {ls : List Label} {s t : State} (h : RunsTo ls s t) : runLabels ls.length s = ls := by
  induction h with
  | nil => rfl
  | cons hstep _ ih => rw [List.length_cons, runLabels, hstep]; exact congrArg (List.cons _) ih

theorem RunsTo.inv {ls : List Label} {s t : State} (h : RunsTo ls s t) (hs : s.Inv) : t.Inv := by
  induction h with
  | nil => exact hs
  | cons hstep _ ih => exact ih (step_next_inv hs hstep)

/-! ### One offered byte -/

/-- Where no frame is complete, a step that is offered a byte receives it (R155). -/
theorem step_rxWord {s : State} {b : Byte} {ws : List InputWord} (hs : s.Sound) (hc : s.complete = false)
    (hin : s.inputs = rxWord b :: ws) : step s = .next (receive b (s.setInputs ws)) := by
  have hsel : selected s = .rxByte b := by
    unfold selected sampledWord
    rw [hin]
    exact (decodeInput_rx_iff s b).2 hc
  have hafter : afterSample s = s.setInputs ws := by rw [afterSample, hin, List.tail_cons]
  rw [step_eq, hsel, hafter]
  exact exec_rxByte_eq (s := s.setInputs ws) hs hc b

/-- A byte passes that is neither taken nor a terminator, with these words still to come. -/
def letPass (b : Byte) (ws : List InputWord) (s : State) : State :=
  { s with inputs := ws, rxLenErr := false, label := .rx b false false }

/-- An armed receiver stores a byte that is no terminator, with these words still to come. -/
def store (b : Byte) (ws : List InputWord) (s : State) : State :=
  { s with inputs := ws, buf := s.buf.write s.length b, length := s.length + 1, rxLenErr := false,
           label := .rx b false false }

theorem step_eq_letPass {s : State} {b : Byte} {ws : List InputWord} (hs : s.Sound) (hc : s.complete = false)
    (hin : s.inputs = rxWord b :: ws) (ht : ¬ taken b s) (hb : b ≠ terminator) :
    step s = .next (letPass b ws s) := by
  have hpassed : passed b (s.setInputs ws) = letPass b ws s := by
    rw [passed, if_neg hb, beq_eq_false_iff_ne.2 hb, letPass, ← hc]
    rfl
  rw [step_rxWord hs hc hin, receive_eq_passed (s := s.setInputs ws) hc ht, hpassed]

theorem step_eq_store {s : State} {b : Byte} {ws : List InputWord} (hs : s.Sound) (hc : s.complete = false)
    (hin : s.inputs = rxWord b :: ws) (hp : s.pcount = 2) (hroom : s.length < s.cfg.maxLen) (hb : b ≠ terminator) :
    step s = .next (store b ws s) := by
  have happended : appended b (s.setInputs ws) = store b ws s := by
    rw [appended, if_neg hb, if_pos (c := (s.setInputs ws).pcount = 2) hp, beq_eq_false_iff_ne.2 hb,
      store, ← hc, ← hp]
    rfl
  rw [step_rxWord hs hc hin, receive_eq_appended (s := s.setInputs ws) hc (.inr hp) hroom, happended]

/-- A taken byte with room, as a run of one step. -/
theorem runsTo_appended {s : State} {b : Byte} {ws : List InputWord} (hs : s.Sound) (hc : s.complete = false)
    (hin : s.inputs = rxWord b :: ws) (ht : taken b s) (hroom : s.length < s.cfg.maxLen) :
    RunsTo [.rx b (b == terminator) false] s (appended b (s.setInputs ws)) := by
  have hstep := step_rxWord hs hc hin
  rw [receive_eq_appended (s := s.setInputs ws) hc ht hroom] at hstep
  exact .cons hstep (.nil _)

/-! ### Many offered bytes -/

/-- The labels of received bytes that complete nothing and overflow nothing. -/
def quietLabels (bs : List Byte) : List Label := bs.map fun b => .rx b false false

@[simp] theorem quietLabels_length (bs : List Byte) : (quietLabels bs).length = bs.length := List.length_map _

/-- An unarmed receiver lets every byte pass that is neither preamble nor terminator, and stores none. -/
theorem runsTo_passed {s : State} {bs : List Byte} {rest : List InputWord} (hs : s.Sound)
    (hc : s.complete = false) (hp : s.pcount ≠ 2) (hbs : ∀ b ∈ bs, b ≠ preamble ∧ b ≠ terminator)
    (hin : s.inputs = bs.map rxWord ++ rest) :
    ∃ e l, RunsTo (quietLabels bs) s { s with inputs := rest, rxLenErr := e, label := l } ∧
      (bs ≠ [] ∨ s.rxLenErr = false → e = false) := by
  induction bs generalizing s with
  | nil =>
    obtain rfl : s.inputs = rest := hin
    exact ⟨s.rxLenErr, s.label, .nil s, fun h => h.resolve_left fun hne => hne rfl⟩
  | cons b bs ih =>
    obtain ⟨⟨hpre, hterm⟩, hbs'⟩ := List.forall_mem_cons.1 hbs
    have hstep := step_eq_letPass hs hc hin (not_taken_of_ne_preamble hp hpre) hterm
    obtain ⟨e, l, hrun, he⟩ := ih (s := letPass b (bs.map rxWord ++ rest) s) hs hc hp hbs' rfl
    exact ⟨e, l, .cons hstep hrun, fun _ => he (.inr rfl)⟩

/-- An armed receiver stores every byte that is no terminator, one after the other, while they fit. -/
theorem runsTo_stored {s : State} {bs : List Byte} {rest : List InputWord} (hs : s.Inv)
    (hc : s.complete = false) (hp : s.pcount = 2) (hbs : ∀ b ∈ bs, b ≠ terminator)
    (hfits : s.length + bs.length ≤ s.cfg.maxLen) (hin : s.inputs = bs.map rxWord ++ rest) :
    ∃ e l, RunsTo (quietLabels bs) s
      { s with inputs := rest, buf := s.buf.writeFrom s.length bs, length := s.length + bs.length,
               rxLenErr := e, label := l } := by
  induction bs generalizing s with
  | nil =>
    obtain rfl : s.inputs = rest := hin
    exact ⟨s.rxLenErr, s.label, .nil s⟩
  | cons b bs ih =>
    obtain ⟨hterm, hbs'⟩ := List.forall_mem_cons.1 hbs
    have hlen : s.length + (b :: bs).length = s.length + 1 + bs.length := by
      rw [List.length_cons]
      omega
    have hstep := step_eq_store hs.sound hc hin hp (by omega) hterm
    obtain ⟨e, l, hrun⟩ := ih (s := store b (bs.map rxWord ++ rest) s) (step_next_inv hs hstep) hc hp hbs'
      (hlen ▸ hfits) rfl
    rw [hlen]
    exact ⟨e, l, .cons hstep hrun⟩

/-! ### Overflow -/

/-- Bytes offered to an armed receiver, of which the first ones fit: those are stored, and the rest are still to
come. -/
theorem run_stored_of_append {s : State} {bs cs : List Byte} {rest : List InputWord} (hs : s.Inv)
    (hc : s.complete = false) (hp : s.pcount = 2) (hbs : ∀ b ∈ bs ++ cs, b ≠ terminator)
    (hfits : s.length + bs.length ≤ s.cfg.maxLen) (hin : s.inputs = (bs ++ cs).map rxWord ++ rest) :
    ∃ t, RunsTo (quietLabels bs) s t ∧ t.inputs = cs.map rxWord ++ rest ∧ t.cfg = s.cfg ∧
      t.length = s.length + bs.length ∧ t.pcount = 2 ∧ t.complete = false := by
  rw [List.map_append, List.append_assoc] at hin
  obtain ⟨e, l, hrun⟩ := runsTo_stored hs hc hp (fun b hb => hbs b (List.mem_append_left cs hb)) hfits hin
  exact ⟨_, hrun, rfl, rfl, rfl, hp, hc⟩

/-- Settles O8: an armed receiver stores the bytes that fit and the next one finds the buffer full; an unarmed one
lets its bytes pass. -/
theorem armedReceiverOverflowsUnarmedNeverDoes : Obligations.ArmedReceiverOverflowsUnarmedNeverDoes := by
  constructor
  · intro s bs rest hs hc hp hbs hlen hin
    have hle := hs.length_le
    constructor
    · intro j hj
      have htake : (bs.take j).length = j := List.length_take_of_le hj.le
      rw [← List.take_append_drop j bs] at hbs hin
      obtain ⟨t, hrun, -, -, htlen, htp, htc⟩ := run_stored_of_append hs hc hp hbs (by omega) hin
      have hrun' := hrun.run_eq
      rw [quietLabels_length, htake] at hrun'
      exact ⟨t, hrun', by rw [htlen, htake], htp, htc⟩
    · obtain rfl | ⟨init, b, rfl⟩ := List.eq_nil_or_concat' bs
      · cases hlen
      rw [List.length_append, List.length_singleton] at hlen
      obtain ⟨t, hrun, htin, htcfg, htlen, htp, htc⟩ := run_stored_of_append hs hc hp hbs (by omega) hin
      have hfull : t.cfg.maxLen ≤ t.length := by
        rw [htcfg, htlen]
        omega
      have hstep := step_rxWord (ws := rest) (hrun.inv hs).sound htc htin
      rw [receive_eq_discarded (s := t.setInputs rest) (.inr htp) hfull] at hstep
      have hrun' := (hrun.append (.cons hstep (.nil _))).run_eq
      rw [List.length_append, quietLabels_length] at hrun'
      rw [List.length_append]
      exact ⟨_, hrun', rfl, rfl, rfl, rfl, rfl⟩
  · intro s bs rest hs hc hp hbs hin
    obtain ⟨hlen, -⟩ := hs.inv1 hc ((unarmed_or_armed hs.pcountLegal).resolve_right hp)
    obtain ⟨e, l, hrun, he⟩ := runsTo_passed hs.sound hc hp hbs hin
    have hrun' := hrun.run_eq
    rw [quietLabels_length] at hrun'
    exact ⟨_, hrun', hlen, rfl, hc, fun _ => rfl, fun hne => he (.inl hne), rfl⟩

/-! ### The framing example -/

/-- Settles O9: two preamble bytes arm the receiver, it stores the next three, and the terminator completes the
frame. -/
theorem sourceFramingExampleCompletesAtItsLastByte : Obligations.SourceFramingExampleCompletesAtItsLastByte := by
  intro cfg rest hcfg s
  have hs : s.Inv := resetOf_inv _ hcfg
  have hmax : 11 ≤ cfg.maxLen := leastMaxLen_le hcfg
  have hcount0 : (0 : BitVec 2) < 2 := by decide
  have hcount1 : (1 : BitVec 2) < 2 := by decide
  have hfirst := runsTo_appended hs.sound rfl rfl (.inl ⟨rfl, hcount0⟩) (show 0 < cfg.maxLen by omega)
  have hsecond := runsTo_appended (hfirst.inv hs).sound rfl rfl (.inl ⟨rfl, hcount1⟩)
    (show 1 < cfg.maxLen by omega)
  have hpreamble := hfirst.append hsecond
  obtain ⟨e, l, hbody⟩ := runsTo_stored (bs := [0x58, 0xE0, 0x03]) (hpreamble.inv hs) rfl rfl (by decide)
    (show 2 + 3 ≤ cfg.maxLen by omega) rfl
  have harmed := hpreamble.append hbody
  have hlast := runsTo_appended (harmed.inv hs).sound rfl rfl (.inr rfl) (show 5 < cfg.maxLen by omega)
  have hframe := harmed.append hlast
  exact ⟨hframe.runLabels_eq, _, hframe.run_eq, rfl, rfl, rfl, rfl⟩

end Sys2Proof.Machine
end

section
/-! DISPATCH as a function of its outcome (42_dispatcher.md R121 to R134): each of its rows has the effect of one
outcome, and the outcome is found by the checks in their order. -/

namespace Sys2Proof.Machine

/-! ### The outcome of the checks -/

/-- The outcome that the command byte of an accepted frame decides (R129 to R131). -/
def commandOutcome (s : State) : DispOutcome :=
  if frameCmd s = s.cfg.cmdTransferFreq ∨ frameCmd s = s.cfg.cmdGetFreq then .okFreq
  else if frameCmd s = s.cfg.cmdTransferMode ∨ frameCmd s = s.cfg.cmdGetMode then .okMode
  else .unrecognized

/-- The outcome of the whole DISPATCH, by the order of its checks (R121); `dispatchFrame_eq_dispatched_outcome` ties
it to the operation. -/
def dispatchOutcome (s : State) : DispOutcome :=
  if s.length = 0 then .framingErr
  else if frame s 0 ≠ preamble ∨ frame s 1 ≠ preamble ∨ frame s (s.length - 1) ≠ terminator then .framingErr
  else if frameDst s = s.cfg.echoAddr then .echoSkipped
  else if frameSrc s ≠ s.cfg.rigAddr then .framingErr
  else commandOutcome s

/-- Check for check, DISPATCH has the effect of the outcome it finds. -/
theorem dispatchFrame_eq_dispatched_outcome (s : State) : dispatchFrame s = dispatched (dispatchOutcome s) s := by
  unfold dispatchFrame dispatchOutcome commandOutcome
  split_ifs <;> rfl

theorem wellFramed_iff (s : State) : s.WellFramed ↔ ¬ s.length = 0 ∧
    ¬ (frame s 0 ≠ preamble ∨ frame s 1 ≠ preamble ∨ frame s (s.length - 1) ≠ terminator) := by
  rw [not_or, not_or, not_not, not_not, not_not]
  rfl

/-- The empty-frame check and the delimiter check are the structural check together (R123, R124). -/
theorem dispatchOutcome_eq (s : State) : dispatchOutcome s =
    if s.WellFramed then
      if frameDst s = s.cfg.echoAddr then .echoSkipped
      else if frameSrc s ≠ s.cfg.rigAddr then .framingErr
      else commandOutcome s
    else .framingErr := by
  have hwf := wellFramed_iff s
  unfold dispatchOutcome
  by_cases hempty : s.length = 0
  · rw [if_pos hempty, if_neg fun h => (hwf.1 h).1 hempty]
  rw [if_neg hempty]
  by_cases hdelims : frame s 0 ≠ preamble ∨ frame s 1 ≠ preamble ∨ frame s (s.length - 1) ≠ terminator
  · rw [if_pos hdelims, if_neg fun h => (hwf.1 h).2 hdelims]
  · rw [if_neg hdelims, if_pos (hwf.2 ⟨hempty, hdelims⟩)]

/-- The echo check comes before the source check (R126, R127). -/
theorem dispatchOutcome_of_echo {s : State} (hwf : s.WellFramed) (hdst : s.buf.read 2 = s.cfg.echoAddr) :
    dispatchOutcome s = .echoSkipped := by
  rw [dispatchOutcome_eq, if_pos hwf]
  exact if_pos hdst

/-- A command byte never makes a framing error (R131). -/
theorem commandOutcome_ne_framingErr (s : State) : commandOutcome s ≠ .framingErr := by
  unfold commandOutcome
  split_ifs <;> exact nofun

/-- A framing error is a broken structure, or a foreign source on a frame that is no echo (R123, R124, R128). -/
theorem dispatchOutcome_eq_framingErr_iff (s : State) : dispatchOutcome s = .framingErr ↔
    ¬ s.WellFramed ∨ (s.buf.read 2 ≠ s.cfg.echoAddr ∧ s.buf.read 3 ≠ s.cfg.rigAddr) := by
  change _ ↔ _ ∨ (frameDst s ≠ s.cfg.echoAddr ∧ frameSrc s ≠ s.cfg.rigAddr)
  rw [dispatchOutcome_eq]
  by_cases hwf : s.WellFramed
  · by_cases hdst : frameDst s = s.cfg.echoAddr
    · simp [hwf, hdst]
    · by_cases hsrc : frameSrc s = s.cfg.rigAddr
      · simp [hwf, hdst, hsrc, commandOutcome_ne_framingErr]
      · simp [hwf, hdst, hsrc]
  · simp [hwf]

/-! ### Outcomes and their codes -/

/-- R133: the two outcomes that store return true. -/
theorem DispOutcome.returns_eq (o : DispOutcome) : o.returns = (o == .okFreq || o == .okMode) := by
  cases o <;> rfl

theorem DispOutcome.code_eq_framingErr_iff (o : DispOutcome) : o.code = 3 ↔ o = .framingErr := by
  cases o <;> decide

/-! ### The rows of DISPATCH -/

/-- The outcome of a DISPATCH row: the whole operation looks for it, a command class has its own (R121, R129 to
R131). It is meant for the rows of `isDispatch` alone, of which `exec_eq_next_iff_of_isDispatch` speaks. -/
def outcomeOf : Instr → State → DispOutcome
  | .dispatch, s => dispatchOutcome s
  | .dispatchTransferFreq, _ | .dispatchGetFreq, _ => .okFreq
  | .dispatchTransferMode, _ | .dispatchGetMode, _ => .okMode
  | _, _ => .unrecognized

/-- A DISPATCH row completes exactly in a sound state of its row's state column, with the effect of its
outcome. -/
theorem exec_eq_next_iff_of_isDispatch {i : Instr} (hd : isDispatch i = true) (s t : State) :
    exec i s = .next t ↔ s.Sound ∧ SelectableIn i s ∧ t = dispatched (outcomeOf i s) s := by
  have hperform : ∃ en, exec i s = perform en s (.next (dispatched (outcomeOf i s) s)) ∧
      (en = true ↔ SelectableIn i s) := by
    cases i
    case dispatch =>
      refine ⟨s.complete, ?_, Iff.rfl⟩
      rw [show outcomeOf .dispatch s = dispatchOutcome s from rfl, ← dispatchFrame_eq_dispatched_outcome]
      rfl
    case reset | rxByte | txByte | issueReqFreq | issueReqMode | issueWriteFreq | issueWriteMode | idleTxwait |
        idle => cases hd
    all_goals exact ⟨classEnabled s, rfl, classEnabled_iff s⟩
  obtain ⟨en, hexec, hen⟩ := hperform
  rw [hexec, perform_eq_next_iff, hen, Host.Outcome.next.injEq, eq_comm (a := t)]

/-- The whole DISPATCH on a complete frame (R120, R121). -/
theorem exec_dispatch_eq {s : State} (hs : s.Sound) (hc : s.complete = true) :
    exec .dispatch s = .next (dispatched (dispatchOutcome s) s) :=
  (exec_eq_next_iff_of_isDispatch rfl s _).2 ⟨hs, hc, rfl⟩

/-- Settles O10: the checks find the outcome, and the outcome's effect names every element written. -/
theorem dispatchFollowsItsChecksInOrder : Obligations.DispatchFollowsItsChecksInOrder := by
  intro s hs hc
  have hexec := exec_dispatch_eq hs hc
  rw [dispatched, DispOutcome.returns_eq] at hexec
  exact hexec

/-- Settles O12: both rows have the outcome OK_FREQ. -/
theorem frequencyClassesStoreTheDecodedPayload : Obligations.FrequencyClassesStoreTheDecodedPayload := by
  rintro i s (rfl | rfl) hs hc hacc <;> exact (exec_eq_next_iff_of_isDispatch rfl s _).2 ⟨hs, ⟨hc, hacc⟩, rfl⟩

/-- Settles O13: both rows have the outcome OK_MODE. -/
theorem modeClassesStoreTheirPayloadByte : Obligations.ModeClassesStoreTheirPayloadByte := by
  rintro i s (rfl | rfl) hs hc hacc <;> exact (exec_eq_next_iff_of_isDispatch rfl s _).2 ⟨hs, ⟨hc, hacc⟩, rfl⟩

/-- Settles O14: the six rows have the outcome UNRECOGNIZED. -/
theorem otherClassesAreUnrecognizedAndStoreNothing : Obligations.OtherClassesAreUnrecognizedAndStoreNothing := by
  rintro i s (rfl | rfl | rfl | rfl | rfl | ⟨cmd, rfl⟩) hs hc hacc <;>
    exact (exec_eq_next_iff_of_isDispatch rfl s _).2 ⟨hs, ⟨hc, hacc⟩, rfl⟩

/-- Settles O15: every outcome clears `length` and `complete` and writes no cell, and INV3 has `pcount` 0 on a
complete frame. -/
theorem everyDispatchLeavesACleanReceiver : Obligations.EveryDispatchLeavesACleanReceiver := by
  intro i s t hd hs h
  obtain ⟨-, hsel, rfl⟩ := (exec_eq_next_iff_of_isDispatch hd s t).1 h
  obtain ⟨hp, -⟩ := hs.inv3 (complete_of_isDispatch hd hsel)
  exact ⟨rfl, hp, rfl, fun _ => rfl⟩

/-! ### The echo configuration -/

/-- R7(d). -/
theorem echoAddr_of_valid {cfg : Config} (h : cfg.valid = true) :
    cfg.echoAddr = cfg.rigAddr ∨ cfg.echoAddr = ownAddr := by
  simp only [Config.valid, Config.echoIsAnAddress, Bool.and_eq_true, Bool.or_eq_true, beq_iff_eq] at h
  exact h.1.2

/-- R7(e). -/
theorem rigAddr_ne_ownAddr_of_valid {cfg : Config} (h : cfg.valid = true) : cfg.rigAddr ≠ ownAddr := by
  simp only [Config.valid, Config.addressesDiffer, Bool.and_eq_true, bne_iff_ne] at h
  exact h.2

/-- Settles O16: the echo check discards the frame where it compares with RIG_ADDR, and the source check where it
does not. -/
theorem ownFrameIsNeverStored : Obligations.OwnFrameIsNeverStored := by
  intro s hs hc hwf hdst hsrc
  have haddr : s.cfg.rigAddr ≠ ownAddr := rigAddr_ne_ownAddr_of_valid hs.1
  refine ⟨_, exec_dispatch_eq hs hc, ?_⟩
  obtain hecho | hecho := echoAddr_of_valid hs.1
  · rw [dispatchOutcome_of_echo hwf (hdst.trans hecho.symm)]
    exact ⟨rfl, rfl, fun _ => rfl, fun hown => absurd (hecho.symm.trans hown) haddr⟩
  · have hnoEcho : s.buf.read 2 ≠ s.cfg.echoAddr := by rwa [hdst, hecho]
    have hforeign : s.buf.read 3 ≠ s.cfg.rigAddr := fun h => haddr (h.symm.trans hsrc)
    rw [(dispatchOutcome_eq_framingErr_iff s).2 (.inr ⟨hnoEcho, hforeign⟩)]
    exact ⟨rfl, rfl, fun hrig => absurd (hrig.symm.trans hecho) haddr, fun _ => rfl⟩

/-- Settles O17: with ECHO_ADDR = OWN_ADDR a frame addressed to us is an echo, whose code is neither OK_FREQ nor
OK_MODE. -/
theorem literalEchoConfigurationDiscardsReplies : Obligations.LiteralEchoConfigurationDiscardsReplies := by
  intro s hs hc hecho hwf
  have hskipped (hdst : s.buf.read 2 = 0xE0) : dispatchOutcome s = .echoSkipped :=
    dispatchOutcome_of_echo hwf (hdst.trans hecho.symm)
  refine ⟨_, exec_dispatch_eq hs hc, fun hdst => ?_, fun hstored hdst => ?_⟩
  · rw [hskipped hdst]
    exact ⟨rfl, rfl, rfl⟩
  · rw [hskipped hdst] at hstored
    exact absurd hstored (show ¬ (dispEchoSkipped = 1 ∨ dispEchoSkipped = 2) by decide)

/-! ### Frames the receiver assembled -/

/-- A complete frame is well framed, or holds at most one preamble byte (INV3), which is no terminator. -/
theorem State.Inv.wellFramed_cases {s : State} (hs : s.Inv) (hc : s.complete = true) :
    (s.length ≤ 1 ∧ ¬ s.WellFramed) ∨ (3 ≤ s.length ∧ s.WellFramed) := by
  obtain ⟨-, ⟨hshort, hcells⟩ | ⟨hlong, -, hfirst, hsecond, hlast, -⟩⟩ := hs.inv3 hc
  · refine .inl ⟨hshort, fun ⟨_, _, _, hlast⟩ => ?_⟩
    have hpreamble : s.buf.read (s.length - 1) = preamble := hcells _ (by omega)
    exact absurd (hpreamble.symm.trans hlast) (by decide)
  · exact .inr ⟨hlong, by omega, hfirst, hsecond, hlast⟩

/-- Settles O18: INV3 leaves the structural check only the frames of length 0 and 1 to refuse (R125). -/
theorem framingErrorsOfReceivedFrames : Obligations.FramingErrorsOfReceivedFrames := by
  intro s hs hc
  have hcases := hs.wellFramed_cases hc
  have hlength : ¬ s.WellFramed ↔ s.length = 0 ∨ s.length = 1 := by
    obtain ⟨hlen, hwf⟩ | ⟨hlen, hwf⟩ := hcases
    · exact iff_of_true hwf (by omega)
    · exact iff_of_false (not_not.2 hwf) (by omega)
  refine ⟨fun hlen => ?_, _, exec_dispatch_eq hs.sound hc, ?_⟩
  · obtain ⟨hshort, -⟩ | ⟨-, hwf⟩ := hcases
    · omega
    · exact hwf
  · calc (dispatchOutcome s).code = 3
        ↔ dispatchOutcome s = .framingErr := DispOutcome.code_eq_framingErr_iff _
      _ ↔ ¬ s.WellFramed ∨ (s.buf.read 2 ≠ s.cfg.echoAddr ∧ s.buf.read 3 ≠ s.cfg.rigAddr) :=
        dispatchOutcome_eq_framingErr_iff s
      _ ↔ _ := by rw [hlength, or_assoc]

/-! ### The step that dispatches -/

/-- A step on a complete frame is its DISPATCH, whether it selects the whole operation or a class (R155). -/
theorem step_eq_dispatch_of_complete {s : State} (hc : s.complete = true) (hrst : inRst (sampledWord s) = false) :
    step s = exec .dispatch (afterSample s) := by
  obtain ⟨hreset, -⟩ | ⟨-, ⟨-, hacc, hi⟩ | ⟨-, -, hi⟩ | ⟨hopen, -⟩ | ⟨hopen, -⟩ | ⟨hopen, -⟩ | ⟨hopen, -⟩ |
    ⟨hopen, -⟩⟩ := selected_cases s
  · exact absurd (hrst.symm.trans hreset) Bool.false_ne_true
  · rw [step_eq, hi]
    exact commandClassDoesWhatDispatchDoes (afterSample s) hc ((frameAccepted_iff s).1 hacc)
  · rw [step_eq, hi]
  all_goals exact absurd (hopen.symm.trans hc) Bool.false_ne_true

/-- Settles O49: the completed frame closes the receiver, and the step after it is the frame's DISPATCH. -/
theorem completedFrameIsDispatchedNext : Obligations.CompletedFrameIsDispatchedNext := by
  intro s t hs _ hstep hc hrst
  have hdispatch := step_eq_dispatch_of_complete hc hrst
  have hsound : (afterSample t).Sound := (step_next_inv hs hstep).sound
  refine ⟨?_, hdispatch, _, _, hdispatch.trans (exec_dispatch_eq hsound hc), rfl, rfl, rfl⟩
  rw [rxReady, hc, Bool.not_true, Bool.and_false]

end Sys2Proof.Machine
end

section
/-! Who reads the receive buffer (20_memory.md R52): only DISPATCH, and only the cells of its checks and payloads. -/

namespace Sys2Proof.Machine

/-! ### The other operations -/

/-- Where an operation completes, no other contents of the buffer stop it. -/
theorem perform_setBuf_of_next {en : Bool} {s t : State} {k : Result} (h : perform en s k = .next t) (m : Memory)
    (k' : Result) : perform en (s.setBuf m) k' = k' := by
  obtain ⟨hs, hen, -⟩ := (perform_eq_next_iff en s k t).1 h
  have hs' : (s.setBuf m).Sound := hs
  exact perform_of_enabled hs' hen k'

/-- RX_BYTE writes the buffer and reads none of it. -/
theorem receive_setBuf (b : Byte) {s : State} (hc : s.complete = false) (m : Memory) :
    ∃ n, receive b (s.setBuf m) = (receive b s).setBuf n := by
  obtain ⟨ht, h⟩ | ⟨ht, hfull, h⟩ | ⟨ht, hroom, h⟩ := receive_effects b hc
  · exact ⟨m, h ▸ receive_eq_passed (s := s.setBuf m) hc ht⟩
  · exact ⟨m, h ▸ receive_eq_discarded (s := s.setBuf m) ht hfull⟩
  · exact ⟨m.write s.length b, h ▸ receive_eq_appended (s := s.setBuf m) hc ht hroom⟩

theorem transmit_setBuf {ok : Bool} {s t : State} (h : transmit ok s = .next t) (m : Memory) :
    transmit ok (s.setBuf m) = .next (t.setBuf m) := by
  obtain ⟨hidx, ⟨hok, hlast, rfl⟩ | ⟨hok, hmore, rfl⟩ | ⟨hok, rfl⟩⟩ := (transmit_eq_next_iff ok s t).1 h
  · exact (transmit_eq_next_iff ok _ _).2 ⟨hidx, .inl ⟨hok, hlast, rfl⟩⟩
  · exact (transmit_eq_next_iff ok _ _).2 ⟨hidx, .inr (.inl ⟨hok, hmore, rfl⟩)⟩
  · exact (transmit_eq_next_iff ok _ _).2 ⟨hidx, .inr (.inr ⟨hok, rfl⟩)⟩

/-- An operation that is no DISPATCH does the same whatever the buffer holds. -/
theorem exec_setBuf_of_not_isDispatch {i : Instr} {s t : State} (hd : isDispatch i = false)
    (h : exec i s = .next t) (m : Memory) : ∃ n, exec i (s.setBuf m) = .next (t.setBuf n) := by
  by_cases hi : i = .reset
  · subst hi
    obtain ⟨-, hcfg, rfl⟩ | ⟨-, hbody⟩ := exec_eq_next_cases h
    · exact ⟨[], exec_reset_eq (s := s.setBuf m) hcfg⟩
    · simp at hbody
  have hsel := selectableIn_of_exec_eq_next h hi
  obtain ⟨hd', -, -⟩ | ⟨b, rfl, rfl⟩ | ⟨ok, rfl, htx⟩ | ⟨op, arg, rfl, rfl⟩ | ⟨rfl | rfl, rfl⟩ :=
    exec_eq_next_kinds h hi
  · exact absurd (hd.symm.trans hd') Bool.false_ne_true
  · obtain ⟨n, hn⟩ := receive_setBuf b hsel m
    exact ⟨n, (perform_setBuf_of_next h m _).trans (congrArg _ hn)⟩
  · exact ⟨m, (perform_setBuf_of_next h m _).trans (transmit_setBuf htx m)⟩
  · rw [exec_issueInstr] at h ⊢
    exact ⟨m, perform_setBuf_of_next h m _⟩
  · exact ⟨m, perform_setBuf_of_next h m _⟩
  · exact ⟨m, perform_setBuf_of_next h m _⟩

/-! ### DISPATCH -/

section sameCells
variable {s : State} {m : Memory} (hcells : ∀ a ≤ 9, m.read a = s.buf.read a)
  (hlast : m.read (s.length - 1) = s.buf.read (s.length - 1))
include hcells

theorem payload_setBuf : (s.setBuf m).payload = s.payload := by
  simp [State.payload, hcells]

theorem commandOutcome_setBuf : commandOutcome (s.setBuf m) = commandOutcome s := by
  have hcmd : frameCmd (s.setBuf m) = frameCmd s := hcells 4 (by decide)
  rw [commandOutcome, hcmd]
  rfl

/-- An outcome's effect reads the payload cells alone. -/
theorem dispatched_setBuf (o : DispOutcome) : dispatched o (s.setBuf m) = (dispatched o s).setBuf m := by
  have hmode : (s.setBuf m).buf.read 5 = s.buf.read 5 := hcells 5 (by decide)
  rw [dispatched, payload_setBuf hcells, hmode]
  rfl

include hlast

theorem wellFramed_setBuf_iff : (s.setBuf m).WellFramed ↔ s.WellFramed := by
  simp [State.WellFramed, hcells, hlast]

theorem accepted_setBuf_iff : (s.setBuf m).Accepted ↔ s.Accepted := by
  simp only [State.Accepted, wellFramed_setBuf_iff hcells hlast, State.setBuf_buf, State.setBuf_cfg,
    hcells 2 (by decide), hcells 3 (by decide)]

/-- The checks read the header cells, the command byte and the last cell alone. -/
theorem dispatchOutcome_setBuf : dispatchOutcome (s.setBuf m) = dispatchOutcome s := by
  have hdst : frameDst (s.setBuf m) = frameDst s := hcells 2 (by decide)
  have hsrc : frameSrc (s.setBuf m) = frameSrc s := hcells 3 (by decide)
  simp only [dispatchOutcome_eq, wellFramed_setBuf_iff hcells hlast, commandOutcome_setBuf hcells, hdst, hsrc,
    State.setBuf_cfg]

theorem outcomeOf_setBuf (i : Instr) : outcomeOf i (s.setBuf m) = outcomeOf i s := by
  cases i
  case dispatch => exact dispatchOutcome_setBuf hcells hlast
  all_goals rfl

theorem selectableIn_setBuf {i : Instr} (hsel : SelectableIn i s) (hd : isDispatch i = true) :
    SelectableIn i (s.setBuf m) := by
  cases i
  case dispatch => exact hsel
  case reset | rxByte | txByte | issueReqFreq | issueReqMode | issueWriteFreq | issueWriteMode | idleTxwait |
      idle => cases hd
  all_goals exact ⟨hsel.1, (accepted_setBuf_iff hcells hlast).2 hsel.2⟩

/-- A DISPATCH does the same on two buffers that agree on the cells it reads. -/
theorem exec_setBuf_of_isDispatch {i : Instr} {t : State} (hd : isDispatch i = true) (h : exec i s = .next t) :
    exec i (s.setBuf m) = .next (t.setBuf m) := by
  obtain ⟨hs, hsel, rfl⟩ := (exec_eq_next_iff_of_isDispatch hd s t).1 h
  refine (exec_eq_next_iff_of_isDispatch hd _ _).2 ⟨hs, selectableIn_setBuf hcells hlast hsel hd, ?_⟩
  rw [outcomeOf_setBuf hcells hlast, dispatched_setBuf hcells]

end sameCells

/-- Settles O20: by the kind of the operation; a legal buffer has at least 11 cells (R7(a)), and a frame never more
than the buffer. -/
theorem onlyDispatchReadsTheBufferAtItsFixedCells : Obligations.OnlyDispatchReadsTheBufferAtItsFixedCells := by
  refine ⟨fun _ _ _ m hd h => exec_setBuf_of_not_isDispatch hd h m,
    fun _ _ _ _ hd h hcells hlast => exec_setBuf_of_isDispatch hcells hlast hd h, fun s hs => ?_⟩
  have hmax : 11 ≤ s.cfg.maxLen := leastMaxLen_le hs.1
  obtain ⟨-, -, -, hlen, -, -⟩ := (illegal_eq_none_iff s).1 hs.2
  exact ⟨fun a ha => by omega, fun hne => by omega⟩

end Sys2Proof.Machine
end

section
/-! The commands' frames (43_builders.md R140 to R145): what the shadow holds after an ISSUE, and the next state of
each of the four. -/

namespace Sys2Proof.Machine

/-- After a command the shadow reads its frame from cell 0 on. -/
theorem map_read_issued_txbuf {s : State} (hwf : s.txbuf.wf txCapacity) (op : CmdOp) (arg : BitVec 32) :
    (List.range (buildFrame s.cfg op arg).length).map (issued op arg s).txbuf.read = buildFrame s.cfg op arg := by
  refine List.ext_getElem (by simp) fun a _ ha => ?_
  rw [List.getElem_map, List.getElem_range, read_issued_txbuf hwf op arg ha, List.getD_eq_getElem _ _ ha]

/-- A command keeps the cells of the shadow at and above its frame's length (R140). -/
theorem read_issued_txbuf_above {s : State} (hwf : s.txbuf.wf txCapacity) (op : CmdOp) (arg : BitVec 32) {a : Nat}
    (ha : (buildFrame s.cfg op arg).length ≤ a) : (issued op arg s).txbuf.read a = s.txbuf.read a := by
  have hfits : 0 + (buildFrame s.cfg op arg).length ≤ txCapacity := by
    rw [Nat.zero_add]
    exact buildFrame_length_le s.cfg op arg
  have hread := Memory.read_writeFrom (buildFrame s.cfg op arg) hwf hfits a
  rwa [if_neg (by omega)] at hread

/-- In an idle block each command completes with its whole effect: its frame in the shadow, above it the cells
that were there. -/
theorem exec_issueInstr_builds {s : State} (hs : s.Sound) (hwf : s.txbuf.wf txCapacity) (hc : s.complete = false)
    (hidle : s.txbusy = false) (op : CmdOp) (arg : BitVec 32) :
    exec (issueInstr op arg) s = .next (issued op arg s) ∧
      (List.range (buildFrame s.cfg op arg).length).map (issued op arg s).txbuf.read = buildFrame s.cfg op arg ∧
      ∀ a, (buildFrame s.cfg op arg).length ≤ a → (issued op arg s).txbuf.read a = s.txbuf.read a :=
  ⟨(exec_issueInstr op arg s).trans (perform_of_enabled hs ((issueEnabled_iff s).2 ⟨hc, hidle⟩) _),
    map_read_issued_txbuf hwf op arg, fun _ => read_issued_txbuf_above hwf op arg⟩

/-- Settles O21: REQ_FREQ's frame has six bytes and no operand, and REQ_FREQ invalidates nothing. -/
theorem issueReqFreqBuildsItsFrame : Obligations.IssueReqFreqBuildsItsFrame :=
  fun _ arg hs hwf hc hidle => ⟨rfl, _, exec_issueInstr_builds hs hwf hc hidle .reqFreq arg⟩

/-- Settles O22: REQ_MODE's frame has six bytes and no operand, and REQ_MODE invalidates nothing. -/
theorem issueReqModeBuildsItsFrame : Obligations.IssueReqModeBuildsItsFrame :=
  fun _ arg hs hwf hc hidle => ⟨rfl, _, exec_issueInstr_builds hs hwf hc hidle .reqMode arg⟩

/-- Settles O23: WRITE_FREQ's frame has eleven bytes with the encoded operand, whatever it is, and WRITE_FREQ
invalidates `freq`. -/
theorem issueWriteFreqBuildsItsFrameAndInvalidates : Obligations.IssueWriteFreqBuildsItsFrameAndInvalidates :=
  fun _ f hs hwf hc hidle => ⟨rfl, _, exec_issueInstr_builds hs hwf hc hidle .writeFreq f⟩

/-- Settles O24: WRITE_MODE's frame has seven bytes with the operand's low byte, whatever it is, and WRITE_MODE
invalidates `mode`. -/
theorem issueWriteModeBuildsItsFrameAndInvalidates : Obligations.IssueWriteModeBuildsItsFrameAndInvalidates :=
  fun _ arg hs hwf hc hidle => ⟨rfl, _, exec_issueInstr_builds hs hwf hc hidle .writeMode arg⟩

end Sys2Proof.Machine
end

section
/-! TX_BYTE (43_builders.md R146 to R149): its effect by the verdict and the place of the byte in the frame, and
which cell of the shadow it reads. -/

namespace Sys2Proof.Machine

/-! ### The effect by the verdict -/

/-- Where a send is in progress and no frame is complete, TX_BYTE transmits. -/
theorem exec_txByte_eq {s : State} (hs : s.Sound) (hc : s.complete = false) (hbusy : s.txbusy = true) (ok : Bool) :
    exec (.txByte ok) s = transmit ok s :=
  perform_of_enabled hs (by rw [hc, hbusy]; rfl) _

/-- The last byte's write ends the send with DONE_OK (R149). -/
theorem transmit_last {s : State} (hidx : s.txidx < txCapacity) (hlast : s.txidx + 1 = s.txlen) :
    transmit true s = .next
      { s with txidx := s.txidx + 1, txbusy := false, txStatus := txDoneOk,
               label := .tx (s.txbuf.read s.txidx) true true } :=
  (transmit_eq_next_iff true s _).2 ⟨hidx, .inl ⟨rfl, hlast, rfl⟩⟩

/-- Any other byte's write moves the send on to the next one. -/
theorem transmit_more {s : State} (hidx : s.txidx < txCapacity) (hbusy : s.txbusy = true)
    (hmore : s.txidx + 1 ≠ s.txlen) :
    transmit true s = .next
      { s with txidx := s.txidx + 1, label := .tx (s.txbuf.read s.txidx) true false } :=
  (transmit_eq_next_iff true s _).2 ⟨hidx, .inr (.inl ⟨rfl, hmore, by rw [hbusy, Bool.not_true]⟩)⟩

/-- A failed write aborts the send at the byte that failed (R148). -/
theorem transmit_failed {s : State} (hidx : s.txidx < txCapacity) :
    transmit false s = .next
      { s with txbusy := false, txStatus := txWriteFail, label := .tx (s.txbuf.read s.txidx) false true } :=
  (transmit_eq_next_iff false s _).2 ⟨hidx, .inr (.inr ⟨rfl, rfl⟩)⟩

/-- Below the shadow's last cell there is a byte to transmit, whatever the verdict will be. -/
theorem exists_transmit_eq_next {s : State} (hidx : s.txidx < txCapacity) (ok : Bool) :
    ∃ t, transmit ok s = .next t := by
  rw [transmit, presentedByte, if_pos hidx]
  exact ⟨_, rfl⟩

/-- Past the last cell of the shadow there is no byte to transmit (R50; log 10). -/
theorem transmit_outside {s : State} (hidx : txCapacity ≤ s.txidx) (ok : Bool) :
    transmit ok s = .fault .txbufIndexOutside := by
  rw [transmit, presentedByte, if_neg (Nat.not_lt.2 hidx)]

/-- Settles O27: a successful write by whether its byte is the frame's last, and a failed one. -/
theorem txByteFollowsItsVerdict : Obligations.TxByteFollowsItsVerdict := by
  intro s hs hc hbusy hidx
  rw [exec_txByte_eq hs hc hbusy, exec_txByte_eq hs hc hbusy]
  refine ⟨?_, transmit_failed hidx⟩
  split
  next hlast => exact transmit_last hidx hlast
  next hmore => exact transmit_more hidx hbusy hmore

/-- Settles O28: index 11 is past the last cell. -/
theorem txByteOutsideTheShadowFaults : Obligations.TxByteOutsideTheShadowFaults := by
  intro s ok hs hc hbusy hidx
  rw [exec_txByte_eq hs hc hbusy]
  exact transmit_outside hidx.ge ok

/-! ### The cell it reads -/

/-- A send in progress stands within its frame and so within the shadow (INV4). -/
theorem State.Inv.txidx_lt {s : State} (h : s.Inv) (hbusy : s.txbusy = true) :
    s.txidx < s.txlen ∧ s.txidx < txCapacity := by
  obtain ⟨hmem, hidx⟩ := h.inv4.1 hbusy
  have hlen : s.txlen ≤ txCapacity := (show ∀ n ∈ [6, 7, 11], n ≤ txCapacity by decide) _ hmem
  exact ⟨hidx, by omega⟩

/-- TX_BYTE reads the presented cell alone. -/
theorem transmit_setTxbuf {ok : Bool} {s t : State} {m : Memory} (h : transmit ok s = .next t)
    (hcell : m.read s.txidx = s.txbuf.read s.txidx) : transmit ok (s.setTxbuf m) = .next (t.setTxbuf m) := by
  rw [transmit_eq_next_iff] at h ⊢
  simp only [State.setTxbuf_txbuf, State.setTxbuf_txidx, State.setTxbuf_txlen, State.setTxbuf_txbusy, hcell]
  obtain ⟨hidx, ⟨hok, hlast, rfl⟩ | ⟨hok, hmore, rfl⟩ | ⟨hok, rfl⟩⟩ := h
  · exact ⟨hidx, .inl ⟨hok, hlast, rfl⟩⟩
  · exact ⟨hidx, .inr (.inl ⟨hok, hmore, rfl⟩)⟩
  · exact ⟨hidx, .inr (.inr ⟨hok, rfl⟩)⟩

/-- Settles O31: the presented cell lies below `txlen`, and no enable reads the shadow. -/
theorem txByteReadsNoCellAboveItsFrame : Obligations.TxByteReadsNoCellAboveItsFrame := by
  intro s t ok m hs h hcells
  have hsel : s.complete = false ∧ s.txbusy = true := selectableIn_of_exec_eq_next h nofun
  obtain ⟨hc, hbusy⟩ := hsel
  obtain ⟨hidx, -⟩ := hs.txidx_lt hbusy
  rw [exec_txByte_eq hs.sound hc hbusy] at h
  have hs' : (s.setTxbuf m).Sound := hs.sound
  exact (exec_txByte_eq hs' hc hbusy ok).trans (transmit_setTxbuf h (hcells _ hidx))

end Sys2Proof.Machine
end

section
/-! The course of a run from the invariant (45_scheduler.md R155, R156): every step completes, and it consumes the
one word it samples. -/

namespace Sys2Proof.Machine

/-- No operation consumes a word of its own: the step that runs it has sampled one already. -/
theorem exec_next_inputs {i : Instr} {s t : State} (h : exec i s = .next t) : t.inputs = s.inputs := by
  by_cases hi : i = .reset
  · subst hi
    obtain ⟨-, -, rfl⟩ | ⟨-, hbody⟩ := exec_eq_next_cases h
    · rfl
    · simp at hbody
  obtain ⟨-, -, o, rfl⟩ | ⟨b, -, rfl⟩ | ⟨ok, -, htx⟩ | ⟨op, arg, -, rfl⟩ | ⟨-, rfl⟩ := exec_eq_next_kinds h hi
  · rfl
  · obtain ⟨m, n, p, c, e, l, hrx⟩ := receive_frame b s
    rw [hrx]
  · obtain ⟨x, b, v, l, rfl⟩ := transmit_next_frame htx
    rfl
  · rfl
  · rfl

/-- From the invariant every operation completes where its row's state column holds. -/
theorem exec_next_of_selectable {i : Instr} {s : State} (hs : s.Inv) (h : SelectableIn i s) :
    ∃ t, exec i s = .next t := by
  cases i
  case reset => exact ⟨_, exec_reset_eq hs.cfgValid⟩
  case txByte ok =>
    obtain ⟨hc, hbusy⟩ := h
    obtain ⟨-, hidx⟩ := hs.txidx_lt hbusy
    rw [exec_txByte_eq hs.sound hc hbusy]
    exact exists_transmit_eq_next hidx ok
  case dispatch => exact ⟨_, perform_of_enabled hs.sound h _⟩
  case rxByte | idleTxwait | idle => exact ⟨_, perform_of_enabled hs.sound (by simpa [SelectableIn] using h) _⟩
  case issueReqFreq | issueReqMode | issueWriteFreq | issueWriteMode =>
    exact ⟨_, perform_of_enabled hs.sound ((issueEnabled_iff s).2 h) _⟩
  all_goals exact ⟨_, perform_of_enabled hs.sound ((classEnabled_iff s).2 h) _⟩

/-- A step completes, since it selects within the state column. -/
theorem exists_step_eq_next {s : State} (hs : s.Inv) : ∃ t, step s = .next t :=
  exec_next_of_selectable (setInputs_inv hs _) ((selectableIn_afterSample _ s).2 (selectableIn_selected s))

end Sys2Proof.Machine
end

section
/-! Runs of a send (43_builders.md R149, 45_scheduler.md R155): acknowledged at every step it writes the rest of its
frame, and without the environment it stays where it is. -/

namespace Sys2Proof.Machine

/-! ### A send that is acknowledged -/

/-- The labels of the last `n` bytes of a frame of length `len`, written from index `i` on. -/
def sendLabels (m : Memory) (len i n : Nat) : List Label :=
  (List.range' i n).map fun a => .tx (m.read a) true (a + 1 == len)

theorem sendLabels_succ (m : Memory) (len i n : Nat) :
    sendLabels m len i (n + 1) = .tx (m.read i) true (i + 1 == len) :: sendLabels m len (i + 1) n := by
  rw [sendLabels, List.range'_succ, List.map_cons, sendLabels]

@[simp] theorem sendLabels_length (m : Memory) (len i n : Nat) : (sendLabels m len i n).length = n := by
  simp [sendLabels]

/-- Where no frame is complete, a step of a send with an acknowledgement transmits (R155). -/
theorem step_txWord {s : State} {ok : Bool} {ws : List InputWord} (hs : s.Sound) (hc : s.complete = false)
    (hbusy : s.txbusy = true) (hin : s.inputs = txWord ok :: ws) : step s = transmit ok (s.setInputs ws) := by
  have hsel : selected s = .txByte ok := by
    unfold selected sampledWord
    rw [hin]
    exact (decodeInput_tx_iff s ok).2 ⟨hc, hbusy⟩
  have hafter : afterSample s = s.setInputs ws := by rw [afterSample, hin, List.tail_cons]
  rw [step_eq, hsel, hafter]
  exact exec_txByte_eq (s := s.setInputs ws) hs hc hbusy ok

/-- A send with one more byte written and more to come, and these words still to come. -/
def sendMore (ws : List InputWord) (s : State) : State :=
  { s with inputs := ws, txidx := s.txidx + 1, label := .tx (s.txbuf.read s.txidx) true false }

/-- A send with its whole frame written, and these words still to come. -/
def sendDone (ws : List InputWord) (s : State) : State :=
  { s with inputs := ws, txidx := s.txlen, txbusy := false, txStatus := txDoneOk,
           label := .tx (s.txbuf.read (s.txlen - 1)) true true }

theorem step_eq_sendMore {s : State} {ws : List InputWord} (hs : s.Inv) (hc : s.complete = false)
    (hbusy : s.txbusy = true) (hin : s.inputs = txWord true :: ws) (hmore : s.txidx + 1 ≠ s.txlen) :
    step s = .next (sendMore ws s) := by
  obtain ⟨-, hidx⟩ := hs.txidx_lt hbusy
  exact (step_txWord hs.sound hc hbusy hin).trans (transmit_more (s := s.setInputs ws) hidx hbusy hmore)

theorem step_eq_sendDone {s : State} {ws : List InputWord} (hs : s.Inv) (hc : s.complete = false)
    (hbusy : s.txbusy = true) (hin : s.inputs = txWord true :: ws) (hlast : s.txidx + 1 = s.txlen) :
    step s = .next (sendDone ws s) := by
  obtain ⟨-, hidx⟩ := hs.txidx_lt hbusy
  have hprev : s.txlen - 1 = s.txidx := by omega
  rw [step_txWord hs.sound hc hbusy hin, transmit_last (s := s.setInputs ws) hidx hlast, State.setInputs_txidx, hlast,
    sendDone, hprev]
  rfl

/-- A send goes on byte by byte up to the last one, which ends it. -/
theorem runsTo_sendDone {s : State} {n : Nat} {rest : List InputWord} (hs : s.Inv) (hc : s.complete = false)
    (hbusy : s.txbusy = true) (hlen : s.txidx + (n + 1) = s.txlen)
    (hin : s.inputs = List.replicate (n + 1) (txWord true) ++ rest) :
    RunsTo (sendLabels s.txbuf s.txlen s.txidx (n + 1)) s (sendDone rest s) := by
  rw [List.replicate_succ, List.cons_append] at hin
  rw [sendLabels_succ]
  induction n generalizing s with
  | zero =>
    have hstep := step_eq_sendDone hs hc hbusy hin hlen
    have hlabel : (sendDone rest s).label = .tx (s.txbuf.read s.txidx) true (s.txidx + 1 == s.txlen) := by
      rw [sendDone, ← hlen, beq_self_eq_true]
      rfl
    rw [← hlabel]
    exact .cons hstep (.nil _)
  | succ n ih =>
    have hmore : s.txidx + 1 ≠ s.txlen := by omega
    have hstep := step_eq_sendMore hs hc hbusy hin hmore
    have hrest := ih (s := sendMore _ s) (step_next_inv hs hstep) hc hbusy
      (show s.txidx + 1 + (n + 1) = s.txlen by omega) rfl
    rw [beq_eq_false_iff_ne.2 hmore, sendLabels_succ]
    exact .cons hstep hrest

/-- Settles O29: a send in progress has a byte left (INV4), and the run writes from there to the last one. -/
theorem acknowledgedSendWritesItsWholeFrame : Obligations.AcknowledgedSendWritesItsWholeFrame := by
  intro s rest hs hc hbusy hin
  obtain ⟨hidx, -⟩ := hs.txidx_lt hbusy
  obtain ⟨n, hn⟩ : ∃ n, s.txlen - s.txidx = n + 1 := Nat.exists_eq_add_one.2 (Nat.sub_pos_of_lt hidx)
  rw [hn] at hin ⊢
  have hruns := runsTo_sendDone hs hc hbusy (by omega) hin
  have hlabels := hruns.runLabels_eq
  have hrun := hruns.run_eq
  rw [sendLabels_length] at hlabels hrun
  rw [sendLabels, List.range'_eq_map_range, List.map_map] at hlabels
  exact ⟨hlabels, _, hrun, rfl, rfl, rfl, rfl, rfl⟩

/-! ### A send without the environment -/

/-- The transmitter's elements (R29 to R33). -/
def State.transmitter (s : State) : Memory × Nat × Nat × Bool × BitVec 2 :=
  (s.txbuf, s.txlen, s.txidx, s.txbusy, s.txStatus)

theorem transmitter_eq_iff (s t : State) : t.transmitter = s.transmitter ↔
    t.txbuf = s.txbuf ∧ t.txlen = s.txlen ∧ t.txidx = s.txidx ∧ t.txbusy = s.txbusy ∧ t.txStatus = s.txStatus := by
  simp [State.transmitter]

/-- A word at which the transmitter waits: it asks for no RESET, and offers an inbound byte or, to a send in
progress, no acknowledgement (R155). -/
def Waits (busy : Bool) (w : InputWord) : Prop :=
  inRst w = false ∧ (inRxValid w = true ∨ busy = true ∧ inTxAck w = false)

theorem sampledWord_eq_getD (s : State) : sampledWord s = s.inputs.getD 0 0 := by
  unfold sampledWord
  cases s.inputs <;> rfl

/-- At a word at which the transmitter waits, a step selects none of its writers: no RESET, no command, and no
TX_BYTE. -/
theorem selected_of_waits {s : State} (hw : Waits s.txbusy (sampledWord s)) :
    selected s ≠ .reset ∧ isIssue (selected s) = false ∧ ∀ ok, selected s ≠ .txByte ok := by
  obtain ⟨hrst, hoffer⟩ := hw
  obtain ⟨hreset, -⟩ | ⟨-, ⟨-, -, hi⟩ | ⟨-, -, hi⟩ | ⟨-, -, hi⟩ | ⟨-, hrx, -, hack, -⟩ | ⟨-, -, -, -, hi⟩ |
    ⟨-, hrx, hbusy, -, -⟩ | ⟨-, -, -, -, hi⟩⟩ := selected_cases s
  · simp [hrst] at hreset
  · have hd := isDispatch_decodeCommand s.cfg (frameCmd s)
    rw [← hi] at hd
    refine ⟨fun h => ?_, hi ▸ isIssue_decodeCommand _ _, fun ok h => ?_⟩ <;> rw [h] at hd <;> cases hd
  · rw [hi]
    exact ⟨nofun, rfl, nofun⟩
  · rw [hi]
    exact ⟨nofun, rfl, nofun⟩
  · simp [hrx, hack] at hoffer
  · rw [hi]
    exact ⟨nofun, rfl, nofun⟩
  · simp [hrx, hbusy] at hoffer
  · rw [hi]
    exact ⟨nofun, rfl, nofun⟩

/-- At such a word a step completes and keeps the transmitter. -/
theorem step_of_waits {s : State} (hs : s.Inv) (hw : Waits s.txbusy (sampledWord s)) :
    ∃ t, step s = .next t ∧ t.inputs = s.inputs.tail ∧ t.transmitter = s.transmitter := by
  obtain ⟨t, hstep⟩ := exists_step_eq_next hs
  obtain ⟨hreset, hissue, htx⟩ := selected_of_waits hw
  obtain ⟨-, -, hshadow, -, hsend⟩ := statusAndTransmitterElementsHaveTheirWriters _ _ _ hstep hreset
  obtain ⟨htxbuf, htxlen⟩ := hshadow hissue
  obtain ⟨htxidx, htxbusy, htxStatus⟩ := hsend hissue htx
  exact ⟨t, hstep, exec_next_inputs hstep,
    (transmitter_eq_iff s t).2 ⟨htxbuf, htxlen, htxidx, htxbusy, htxStatus⟩⟩

/-- While the transmitter waits at every word, no number of steps moves it; past the end of the words the word
is 0 (log 4). -/
theorem run_of_waits {k : Nat} {s : State} (hs : s.Inv) (hw : ∀ j < k, Waits s.txbusy (s.inputs.getD j 0)) :
    ∃ t, run k s = .next t ∧ t.transmitter = s.transmitter := by
  induction k generalizing s with
  | zero => exact ⟨s, rfl, rfl⟩
  | succ k ih =>
    have hfirst : Waits s.txbusy (sampledWord s) := by
      rw [sampledWord_eq_getD]
      exact hw 0 k.succ_pos
    obtain ⟨u, hstep, hin, hu⟩ := step_of_waits hs hfirst
    obtain ⟨-, -, -, hbusy, -⟩ := (transmitter_eq_iff s u).1 hu
    have hrest : ∀ j < k, Waits u.txbusy (u.inputs.getD j 0) := fun j hj => by
      rw [hbusy, hin, List.getD_eq_getElem?_getD, List.getElem?_tail, ← List.getD_eq_getElem?_getD]
      exact hw (j + 1) (Nat.succ_lt_succ hj)
    obtain ⟨t, hrun, ht⟩ := ih (step_next_inv hs hstep) hrest
    exact ⟨t, by rw [run, hstep]; exact hrun, ht.trans hu⟩

/-- Settles O30: without an acknowledgement a send waits, at the words past the end too, and an inbound byte makes
any transmitter wait. -/
theorem sendMakesNoProgressWithoutTheEnvironment : Obligations.SendMakesNoProgressWithoutTheEnvironment := by
  constructor
  · intro k s hs hbusy hwords
    have hwaits : ∀ j < k, Waits s.txbusy (s.inputs.getD j 0) := fun j _ => by
      obtain ⟨hrst, hack⟩ : inRst (s.inputs.getD j 0) = false ∧ inTxAck (s.inputs.getD j 0) = false := by
        by_cases hj : j < s.inputs.length
        · rw [List.getD_eq_getElem _ _ hj]
          exact hwords _ (List.getElem_mem hj)
        · rw [List.getD_eq_default _ _ (Nat.le_of_not_lt hj)]
          decide
      exact ⟨hrst, .inr ⟨hbusy, hack⟩⟩
    obtain ⟨t, hrun, ht⟩ := run_of_waits hs hwaits
    obtain ⟨-, -, hidx, hbusy', -⟩ := (transmitter_eq_iff s t).1 ht
    exact ⟨t, hrun, hbusy'.trans hbusy, hidx⟩
  · intro k s hs hk hwords
    have hwaits : ∀ j < k, Waits s.txbusy (s.inputs.getD j 0) := fun j hj => by
      have hlt : j < s.inputs.length := Nat.lt_of_lt_of_le hj hk
      obtain ⟨hrst, hrx⟩ := hwords _ (List.getElem_mem hlt)
      rw [List.getD_eq_getElem _ _ hlt]
      exact ⟨hrst, .inl hrx⟩
    obtain ⟨t, hrun, ht⟩ := run_of_waits hs hwaits
    obtain ⟨htxbuf, htxlen, hidx, hbusy, hstatus⟩ := (transmitter_eq_iff s t).1 ht
    exact ⟨t, hrun, hbusy, hidx, htxlen, hstatus, htxbuf⟩

end Sys2Proof.Machine
end

section
/-! The scheduler (45_scheduler.md): a step by its priority (R155), its effect by the operation it
performs, and from it the handshakes of the ports (R159 to R161) and what ends a frame or a send (R167). -/

namespace Sys2Proof.Machine

/-! ### IDLE -/

/-- With nothing in progress and nothing offered, IDLE writes the label alone. -/
theorem exec_idle_eq {s : State} (hs : s.Sound) (hc : s.complete = false) (hbusy : s.txbusy = false) :
    exec .idle s = .next (s.setLabel .idle) :=
  perform_of_enabled hs (by rw [hc, hbusy]; rfl) _

/-- While a send waits for the transport, IDLE writes the label alone. -/
theorem exec_idleTxwait_eq {s : State} (hs : s.Sound) (hc : s.complete = false) (hbusy : s.txbusy = true) :
    exec .idleTxwait s = .next (s.setLabel .idle) :=
  perform_of_enabled hs (by rw [hc, hbusy]; rfl) _

/-- Settles O33: each row is enabled in its state and writes the label alone. -/
theorem idleChangesNoState : Obligations.IdleChangesNoState :=
  fun _ hs hc => ⟨exec_idle_eq hs hc, exec_idleTxwait_eq hs hc⟩

/-! ### The priority of a step -/

theorem sampledWord_of_inputs {s : State} {w : InputWord} {rest : List InputWord} (hin : s.inputs = w :: rest) :
    sampledWord s = w := by
  rw [sampledWord, hin, List.headD_cons]

theorem afterSample_of_inputs {s : State} {w : InputWord} {rest : List InputWord} (hin : s.inputs = w :: rest) :
    afterSample s = { s with inputs := rest } := by
  rw [afterSample_eq, hin, List.tail_cons]

/-- The command that `cmd_op` selects, code by code (R74). -/
theorem exec_decodeIssue (op : BitVec 2) (arg : BitVec 32) (s : State) :
    exec (decodeIssue op arg) s =
      if op = 0 then exec (.issueReqFreq arg) s
      else if op = 1 then exec (.issueReqMode arg) s
      else if op = 2 then exec (.issueWriteFreq arg) s
      else exec (.issueWriteMode arg) s := by
  unfold decodeIssue
  split_ifs <;> rfl

/-- R155's priority on the fields of the sampled word, with the whole DISPATCH in its place. -/
theorem step_eq_by_priority (s : State) :
    step s =
      if inRst (sampledWord s) then exec .reset (afterSample s)
      else if s.complete then exec .dispatch (afterSample s)
      else if inRxValid (sampledWord s) then exec (.rxByte (inRxData (sampledWord s))) (afterSample s)
      else if s.txbusy then
        if inTxAck (sampledWord s) then exec (.txByte (inTxOk (sampledWord s))) (afterSample s)
        else exec .idleTxwait (afterSample s)
      else if inCmdValid (sampledWord s) then
        exec (decodeIssue (inCmdOp (sampledWord s)) (inCmdArg (sampledWord s))) (afterSample s)
      else exec .idle (afterSample s) := by
  obtain ⟨hrst, hi⟩ | ⟨hrst, ⟨hc, -⟩ | ⟨hc, -⟩ | ⟨hc, hrx, hi⟩ | ⟨hc, hrx, hbusy, hack, hi⟩ |
    ⟨hc, hrx, hbusy, hack, hi⟩ | ⟨hc, hrx, hbusy, hcmd, hi⟩ | ⟨hc, hrx, hbusy, hcmd, hi⟩⟩ := selected_cases s
  · simp [step_eq, hi, hrst]
  -- on a complete frame the step selects the frame's class or the whole DISPATCH, with one effect
  · simp [step_eq_dispatch_of_complete hc hrst, hrst, hc]
  · simp [step_eq_dispatch_of_complete hc hrst, hrst, hc]
  · simp [step_eq, hi, hrst, hc, hrx]
  · simp [step_eq, hi, hrst, hc, hrx, hbusy, hack]
  · simp [step_eq, hi, hrst, hc, hrx, hbusy, hack]
  · simp [step_eq, hi, hrst, hc, hrx, hbusy, hcmd]
  · simp [step_eq, hi, hrst, hc, hrx, hbusy, hcmd]

/-- Settles O35: the fields of the sampled word are those bits, and `cmd_op` names the four commands. -/
theorem stepFollowsThePriority : Obligations.StepFollowsThePriority := by
  intro s w rest hin
  have hpriority := step_eq_by_priority s
  rw [exec_decodeIssue, sampledWord_of_inputs hin, afterSample_of_inputs hin] at hpriority
  exact hpriority

/-- Settles O38: from the invariant a step completes, and it keeps the invariant for the steps after it. -/
theorem everyRunFromTheInvariantIsSafe : Obligations.EveryRunFromTheInvariantIsSafe := by
  intro s k hs
  induction k generalizing s with
  | zero => exact ⟨s, rfl⟩
  | succ k ih =>
    obtain ⟨u, hstep⟩ := exists_step_eq_next hs
    obtain ⟨t, hrun⟩ := ih u (step_next_inv hs hstep)
    exact ⟨t, by rw [run, hstep]; exact hrun⟩

/-! ### The effect of a step -/

/-- In an idle block with no complete frame a command has its whole effect. -/
theorem exec_issueInstr_eq {s : State} (hs : s.Sound) (hc : s.complete = false) (hidle : s.txbusy = false)
    (op : CmdOp) (arg : BitVec 32) : exec (issueInstr op arg) s = .next (issued op arg s) :=
  (exec_issueInstr op arg s).trans (perform_of_enabled hs ((issueEnabled_iff s).2 ⟨hc, hidle⟩) _)

theorem exists_decodeIssue_eq_issueInstr (op : BitVec 2) (arg : BitVec 32) :
    ∃ c, decodeIssue op arg = issueInstr c arg := by
  obtain ⟨-, h⟩ | ⟨-, h⟩ | ⟨-, h⟩ | ⟨-, h⟩ := decodeIssue_cases op arg
  · exact ⟨.reqFreq, h⟩
  · exact ⟨.reqMode, h⟩
  · exact ⟨.writeFreq, h⟩
  · exact ⟨.writeMode, h⟩

/-- Every next state of a step from a sound state: the effect of the operation that the priority selects. -/
theorem step_eq_next_effects {s t : State} (hs : s.Sound) (h : step s = .next t) :
    (inRst (sampledWord s) = true ∧ t = State.resetOf s.cfg s.inputs.tail) ∨
    (inRst (sampledWord s) = false ∧
      ((s.complete = true ∧ ∃ o, t = dispatched o (afterSample s)) ∨
       (s.complete = false ∧ inRxValid (sampledWord s) = true ∧
          t = receive (inRxData (sampledWord s)) (afterSample s)) ∨
       (s.complete = false ∧ inRxValid (sampledWord s) = false ∧ s.txbusy = true ∧
          inTxAck (sampledWord s) = true ∧ transmit (inTxOk (sampledWord s)) (afterSample s) = .next t) ∨
       (s.complete = false ∧ inRxValid (sampledWord s) = false ∧ s.txbusy = true ∧
          inTxAck (sampledWord s) = false ∧ t = (afterSample s).setLabel .idle) ∨
       (s.complete = false ∧ inRxValid (sampledWord s) = false ∧ s.txbusy = false ∧
          inCmdValid (sampledWord s) = true ∧ ∃ op, t = issued op (inCmdArg (sampledWord s)) (afterSample s)) ∨
       (s.complete = false ∧ inRxValid (sampledWord s) = false ∧ s.txbusy = false ∧
          inCmdValid (sampledWord s) = false ∧ t = (afterSample s).setLabel .idle))) := by
  have hs' : (afterSample s).Sound := sound_afterSample hs
  have hnext {i : Instr} {u : State} (hi : selected s = i) (hu : exec i (afterSample s) = .next u) : t = u := by
    rw [step_eq, hi, hu] at h
    exact (Host.Outcome.next.inj h).symm
  have hdispatched (hrst : inRst (sampledWord s) = false) (hc : s.complete = true) :
      t = dispatched (dispatchOutcome (afterSample s)) (afterSample s) := by
    rw [step_eq_dispatch_of_complete hc hrst, exec_dispatch_eq hs' hc] at h
    exact (Host.Outcome.next.inj h).symm
  refine (selected_cases s).imp (And.imp_right fun hi => hnext hi (exec_reset_eq hs.1)) ?_
  rintro ⟨hrst, ⟨hc, -⟩ | ⟨hc, -⟩ | ⟨hc, hrx, hi⟩ | ⟨hc, hrx, hbusy, hack, hi⟩ | ⟨hc, hrx, hbusy, hack, hi⟩ |
    ⟨hc, hrx, hbusy, hcmd, hi⟩ | ⟨hc, hrx, hbusy, hcmd, hi⟩⟩ <;> refine ⟨hrst, ?_⟩
  · exact .inl ⟨hc, _, hdispatched hrst hc⟩
  · exact .inl ⟨hc, _, hdispatched hrst hc⟩
  · exact .inr (.inl ⟨hc, hrx, hnext hi (exec_rxByte_eq hs' hc _)⟩)
  · rw [step_eq, hi, exec_txByte_eq hs' hc hbusy] at h
    exact .inr (.inr (.inl ⟨hc, hrx, hbusy, hack, h⟩))
  · exact .inr (.inr (.inr (.inl ⟨hc, hrx, hbusy, hack, hnext hi (exec_idleTxwait_eq hs' hc hbusy)⟩)))
  · obtain ⟨op, hop⟩ := exists_decodeIssue_eq_issueInstr (inCmdOp (sampledWord s)) (inCmdArg (sampledWord s))
    exact .inr (.inr (.inr (.inr (.inl ⟨hc, hrx, hbusy, hcmd, op,
      hnext (hi.trans hop) (exec_issueInstr_eq hs' hc hbusy op _)⟩))))
  · exact .inr (.inr (.inr (.inr (.inr ⟨hc, hrx, hbusy, hcmd, hnext hi (exec_idle_eq hs' hc hbusy)⟩))))

/-! ### The labels of the effects -/

/-- TX_BYTE's label has the presented byte, the verdict, and whether the send has ended (R147). -/
theorem transmit_next_label {ok : Bool} {s t : State} (h : transmit ok s = .next t) :
    t.label = .tx (s.txbuf.read s.txidx) ok !t.txbusy := by
  obtain ⟨-, ⟨rfl, -, rfl⟩ | ⟨rfl, -, rfl⟩ | ⟨rfl, rfl⟩⟩ := (transmit_eq_next_iff ok s t).1 h <;> rfl

@[simp] theorem resetOf_label (cfg : Config) (ws : List InputWord) : (State.resetOf cfg ws).label = .reset := rfl

@[simp] theorem dispatched_label (o : DispOutcome) (s : State) :
    (dispatched o s).label = .dispatch o o.returns := rfl

/-- RX_BYTE's label has the byte and the two flags it leaves (R110). -/
@[simp] theorem receive_label (b : Byte) (s : State) :
    (receive b s).label = .rx b (receive b s).complete (receive b s).rxLenErr := rfl

@[simp] theorem issued_label (op : CmdOp) (arg : BitVec 32) (s : State) :
    (issued op arg s).label = .issue op arg := rfl

/-! ### The handshakes of the ports -/

/-- R159. -/
theorem rxReady_iff (s : State) (w : InputWord) : rxReady s w = true ↔ inRst w = false ∧ s.complete = false := by
  simp [rxReady]

/-- R160. -/
theorem cmdReady_iff (s : State) (w : InputWord) : cmdReady s w = true ↔
    inRst w = false ∧ s.complete = false ∧ inRxValid w = false ∧ s.txbusy = false := by
  simp [cmdReady, and_assoc]

/-- R161. -/
theorem txValid_iff (s : State) (w : InputWord) : txValid s w = true ↔
    inRst w = false ∧ s.complete = false ∧ inRxValid w = false ∧ s.txbusy = true := by
  simp [txValid, and_assoc]

/-- Settles O46: of the effects only RX_BYTE's is at `rx_valid ∧ rx_ready`, and its label has the offered byte. -/
theorem receiveHandshakeIsRxByte : Obligations.ReceiveHandshakeIsRxByte := by
  intro s t w rest hs hin h
  obtain rfl := sampledWord_of_inputs hin
  refine ⟨rxReady_iff s _, ?_⟩
  rw [rxReady_iff]
  obtain ⟨hrst, rfl⟩ | ⟨hrst, ⟨hc, o, rfl⟩ | ⟨hc, hrx, rfl⟩ | ⟨-, hrx, -, -, htx⟩ | ⟨-, hrx, -, -, rfl⟩ |
    ⟨-, hrx, -, -, op, rfl⟩ | ⟨-, hrx, -, -, rfl⟩⟩ := step_eq_next_effects hs.sound h
  · simp [hrst]
  · simp [hc]
  · simp [hrst, hc, hrx, eq_comm]
  · simp [transmit_next_label htx, hrx]
  · simp [hrx]
  · simp [hrx]
  · simp [hrx]

/-- Settles O47: of the effects only ISSUE's is at `cmd_valid ∧ cmd_ready`, and its label has the offered
`cmd_arg`. -/
theorem commandHandshakeIsIssue : Obligations.CommandHandshakeIsIssue := by
  intro s t w rest hs hin h
  obtain rfl := sampledWord_of_inputs hin
  refine ⟨cmdReady_iff s _, ?_⟩
  rw [cmdReady_iff]
  obtain ⟨hrst, rfl⟩ | ⟨hrst, ⟨hc, o, rfl⟩ | ⟨-, hrx, rfl⟩ | ⟨-, -, hbusy, -, htx⟩ | ⟨-, -, hbusy, -, rfl⟩ |
    ⟨hc, hrx, hbusy, hcmd, op, rfl⟩ | ⟨-, -, -, hcmd, rfl⟩⟩ := step_eq_next_effects hs.sound h
  · simp [hrst]
  · simp [hc]
  · simp [hrx]
  · simp [transmit_next_label htx, hbusy]
  · simp [hbusy]
  · simp [hrst, hc, hrx, hbusy, hcmd, eq_comm]
  · simp [hcmd]

/-- Settles O48: of the effects only TX_BYTE's is at `tx_valid_o ∧ tx_ack`, and its label has the presented byte. -/
theorem transmitHandshakeIsTxByte : Obligations.TransmitHandshakeIsTxByte := by
  intro s t w rest hs hin h
  obtain rfl := sampledWord_of_inputs hin
  refine ⟨txValid_iff s _, rfl, ?_⟩
  rw [txValid_iff]
  obtain ⟨hrst, rfl⟩ | ⟨hrst, ⟨hc, o, rfl⟩ | ⟨-, hrx, rfl⟩ | ⟨hc, hrx, hbusy, hack, htx⟩ | ⟨-, -, -, hack, rfl⟩ |
    ⟨-, -, hbusy, -, op, rfl⟩ | ⟨-, -, hbusy, -, rfl⟩⟩ := step_eq_next_effects hs.sound h
  · simp [hrst]
  · simp [hc]
  · simp [hrx]
  · have hport : txData s = s.txbuf.read s.txidx := if_pos hbusy
    have hlabel : t.label = .tx (txData s) (inTxOk (sampledWord s)) !t.txbusy := by
      rw [hport]
      exact transmit_next_label (s := afterSample s) htx
    simp [hlabel, hrst, hc, hrx, hbusy, hack, eq_comm]
  · simp [hack]
  · simp [hbusy]
  · simp [hbusy]

/-! ### What ends a frame and a send -/

/-- A received byte leaves an armed receiver armed, completes its frame, or discards it (R167). -/
theorem receive_armed_cases {b : Byte} {s : State} (hc : s.complete = false) (hp : s.pcount = 2) :
    (receive b s).pcount = 2 ∨ (receive b s).complete = true ∨ (receive b s).label = .rx b false true := by
  obtain ⟨hn, -⟩ | ⟨-, -, hr⟩ | ⟨-, -, hr⟩ := receive_effects b hc
  · exact absurd (.inr hp) hn
  · exact .inr (.inr (by rw [hr, discarded]))
  · rw [hr]
    by_cases hb : b = terminator
    · exact .inr (.inl (beq_iff_eq.2 hb))
    · exact .inl ((appended_pcount s hb).trans (if_pos hp))

/-- A received byte shortens only a frame that it discards. -/
theorem receive_shortens_only_discarded {b : Byte} {s : State} (hc : s.complete = false) :
    s.length ≤ (receive b s).length ∨ (receive b s).label = .rx b false true := by
  obtain ⟨-, hr⟩ | ⟨-, -, hr⟩ | ⟨-, -, hr⟩ := receive_effects b hc <;> rw [hr]
  · exact .inl le_rfl
  · exact .inr rfl
  · exact .inl (Nat.le_succ _)

/-- TX_BYTE ends a send by a failed write, or by the write of its last byte (R148, R149). -/
theorem transmit_ends_send {ok : Bool} {s t : State} (h : transmit ok s = .next t) (hbusy : s.txbusy = true)
    (hends : t.txbusy = false) :
    (∃ b, t.label = .tx b false true) ∨ ∃ b, t.label = .tx b true true ∧ s.txidx + 1 = s.txlen := by
  obtain ⟨-, ⟨-, hlast, rfl⟩ | ⟨-, -, rfl⟩ | ⟨-, rfl⟩⟩ := (transmit_eq_next_iff ok s t).1 h
  · exact .inr ⟨_, rfl, hlast⟩
  · exact absurd (hbusy.symm.trans hends) Bool.noConfusion
  · exact .inl ⟨_, rfl⟩

/-- RX_BYTE leaves the send alone. -/
theorem receive_txbusy (b : Byte) (s : State) : (receive b s).txbusy = s.txbusy := by
  obtain ⟨m, n, p, c, e, l, hr⟩ := receive_frame b s
  rw [hr]

/-- TX_BYTE leaves the frame being received alone. -/
theorem transmit_next_receiver {ok : Bool} {s t : State} (h : transmit ok s = .next t) :
    t.pcount = s.pcount ∧ t.length = s.length := by
  obtain ⟨x, b, v, l, rfl⟩ := transmit_next_frame h
  exact ⟨rfl, rfl⟩

/-- R167 for the receiver: an armed one is disarmed without completing only by RESET or an overflow. -/
theorem disarmed_by {s t : State} (hs : s.Sound) (h : step s = .next t) (hopen : s.complete = false)
    (hp : s.pcount = 2) (hopen' : t.complete = false) (hp' : t.pcount ≠ 2) :
    t.label = .reset ∨ ∃ b, t.label = .rx b false true := by
  obtain ⟨-, rfl⟩ | ⟨-, ⟨hc, -⟩ | ⟨-, -, rfl⟩ | ⟨-, -, -, -, htx⟩ | ⟨-, -, -, -, rfl⟩ | ⟨-, -, -, -, op, rfl⟩ |
    ⟨-, -, -, -, rfl⟩⟩ := step_eq_next_effects hs h
  · exact .inl rfl
  · exact absurd hc (Bool.eq_false_iff.1 hopen)
  · obtain harmed | hdone | hl := receive_armed_cases (s := afterSample s) hopen hp
    · exact absurd harmed hp'
    · exact absurd hdone (Bool.eq_false_iff.1 hopen')
    · exact .inr ⟨_, hl⟩
  · obtain ⟨hpcount, -⟩ := transmit_next_receiver htx
    exact absurd (hpcount.trans hp) hp'
  all_goals exact absurd hp hp'

/-- R167 for `length`: it falls only by RESET, a DISPATCH or an overflow. -/
theorem shortened_by {s t : State} (hs : s.Sound) (h : step s = .next t) (hlt : t.length < s.length) :
    t.label = .reset ∨ (∃ o r, t.label = .dispatch o r) ∨ ∃ b, t.label = .rx b false true := by
  obtain ⟨-, rfl⟩ | ⟨-, ⟨-, o, rfl⟩ | ⟨hc, -, rfl⟩ | ⟨-, -, -, -, htx⟩ | ⟨-, -, -, -, rfl⟩ |
    ⟨-, -, -, -, op, rfl⟩ | ⟨-, -, -, -, rfl⟩⟩ := step_eq_next_effects hs h
  · exact .inl rfl
  · exact .inr (.inl ⟨o, _, rfl⟩)
  · obtain hle | hl := receive_shortens_only_discarded (s := afterSample s) hc
    · exact absurd hlt (Nat.not_lt.2 hle)
    · exact .inr (.inr ⟨_, hl⟩)
  · obtain ⟨-, hlength⟩ := transmit_next_receiver htx
    exact absurd hlength (Nat.ne_of_lt hlt)
  all_goals exact absurd hlt (lt_irrefl _)

/-- R167 for a send: it ends only by RESET, a failed write, or the successful write of its last byte. -/
theorem sendEnded_by {s t : State} (hs : s.Sound) (h : step s = .next t) (hbusy : s.txbusy = true)
    (hends : t.txbusy = false) :
    t.label = .reset ∨ (∃ b, t.label = .tx b false true) ∨
      ∃ b, t.label = .tx b true true ∧ s.txidx + 1 = s.txlen := by
  obtain ⟨-, rfl⟩ | ⟨-, ⟨-, o, rfl⟩ | ⟨-, -, rfl⟩ | ⟨-, -, -, -, htx⟩ | ⟨-, -, -, -, rfl⟩ |
    ⟨-, -, hidle, -⟩ | ⟨-, -, hidle, -⟩⟩ := step_eq_next_effects hs h
  · exact .inl rfl
  · exact absurd hbusy (Bool.eq_false_iff.1 hends)
  · exact absurd hbusy (Bool.eq_false_iff.1 ((receive_txbusy _ (afterSample s)).symm.trans hends))
  · exact .inr (transmit_ends_send (s := afterSample s) htx hbusy hends)
  · exact absurd hbusy (Bool.eq_false_iff.1 hends)
  all_goals exact absurd hbusy (Bool.eq_false_iff.1 hidle)

/-- Settles O50: by the effect of the step, of which RESET's, DISPATCH's and RX_BYTE's alone write the receiver and
RESET's, ISSUE's and TX_BYTE's alone the send. -/
theorem nothingElseCancelsAFrameOrASend : Obligations.NothingElseCancelsAFrameOrASend :=
  fun _ _ hs h => ⟨disarmed_by hs.sound h, shortened_by hs.sound h, sendEnded_by hs.sound h⟩

end Sys2Proof.Machine
end

section
/-! The event table (60_exceptions.md R171): DISPATCH's five events record in `disp_status` the code of the outcome
they report, RX_BYTE's one in `rx_lenerr`, and TX_BYTE's two in `tx_status`. -/

namespace Sys2Proof.Machine

/-! ### The events of RX_BYTE and of TX_BYTE -/

/-- RX_BYTE's event sets `rx_lenerr` and writes nothing else (R174). -/
theorem raise_lengthOverflow (s : State) : raise .lengthOverflow s = { s with rxLenErr := true } := rfl

/-- A failed write records WRITE_FAIL and nothing else (R176). -/
theorem raise_writeFailure (s : State) : raise .writeFailure s = { s with txStatus := txWriteFail } := rfl

/-- A finished send records DONE_OK and nothing else (R149). -/
theorem raise_sendDone (s : State) : raise .sendDone s = { s with txStatus := txDoneOk } := rfl

/-! ### The table -/

/-- Settles O52: DISPATCH's rows by the outcome each reports, the others by their own unit's register. -/
theorem eventsRecordTheirCodes : Obligations.EventsRecordTheirCodes := fun s =>
  ⟨raise_outcome_event .framingErr s, raise_outcome_event .echoSkipped s, raise_outcome_event .unrecognized s,
    raise_lengthOverflow s, raise_writeFailure s, raise_outcome_event .okFreq s, raise_outcome_event .okMode s,
    raise_sendDone s⟩

end Sys2Proof.Machine
end

section
/-! What a legal configuration is, and that any other is refused (00_scope.md R7). -/

namespace Sys2Proof

/-! ### The constraints of R7 -/

/-- R7(a). -/
theorem Config.lengthFits_iff (cfg : Config) : cfg.lengthFits = true ↔ leastMaxLen ≤ cfg.maxLen :=
  decide_eq_true_iff

/-- R7(b). -/
theorem Config.codesDistinct_iff (cfg : Config) : cfg.codesDistinct = true ↔ cfg.codes.Nodup :=
  decide_eq_true_iff

/-- R7(c). -/
theorem Config.codesOrdinary_iff (cfg : Config) :
    cfg.codesOrdinary = true ↔ ∀ c ∈ cfg.codes, c ∉ reservedBytes := by
  simp only [Config.codesOrdinary, List.all_eq_true, Bool.not_eq_true', ← Bool.not_eq_true, List.contains_iff_mem]

/-- R7(d). -/
theorem Config.echoIsAnAddress_iff (cfg : Config) :
    cfg.echoIsAnAddress = true ↔ cfg.echoAddr = cfg.rigAddr ∨ cfg.echoAddr = ownAddr := by
  rw [Config.echoIsAnAddress, Bool.or_eq_true, beq_iff_eq, beq_iff_eq]

/-- R7(e). -/
theorem Config.addressesDiffer_iff (cfg : Config) : cfg.addressesDiffer = true ↔ cfg.rigAddr ≠ ownAddr :=
  bne_iff_ne

/-- A configuration is legal where it meets R7(a) to R7(e). -/
theorem Config.valid_iff (cfg : Config) :
    cfg.valid = true ↔
      leastMaxLen ≤ cfg.maxLen ∧ cfg.codes.Nodup ∧ (∀ c ∈ cfg.codes, c ∉ reservedBytes) ∧
        (cfg.echoAddr = cfg.rigAddr ∨ cfg.echoAddr = ownAddr) ∧ cfg.rigAddr ≠ ownAddr := by
  simp only [Config.valid, Bool.and_eq_true, and_assoc, Config.lengthFits_iff, Config.codesDistinct_iff,
    Config.codesOrdinary_iff, Config.echoIsAnAddress_iff, Config.addressesDiffer_iff]

end Sys2Proof

namespace Sys2Proof.Machine

/-! ### The refusal -/

/-- RESET asks for a legal configuration itself, every other operation by `perform`. -/
theorem exec_of_badConfiguration {s : State} (h : s.cfg.valid = false) (i : Instr) :
    exec i s = .refused .badConfiguration := by
  by_cases hi : i = .reset
  · subst hi
    exact if_neg (Bool.eq_false_iff.1 h)
  · obtain ⟨en, k, hexec⟩ := exec_eq_perform hi s
    exact hexec.trans (perform_of_badConfiguration h en k)

/-- A step keeps the configuration while it samples, so the operation it selects is refused. -/
theorem step_of_badConfiguration {s : State} (h : s.cfg.valid = false) : step s = .refused .badConfiguration :=
  exec_of_badConfiguration (s := afterSample s) h (selected s)

/-- Settles O40: legality is the conjunction of R7's constraints, and without it RESET and `perform` refuse. -/
theorem illegalConfigurationsAreRefused : Obligations.IllegalConfigurationsAreRefused :=
  ⟨Config.valid_iff, fun i _ h => ⟨exec_of_badConfiguration h i, step_of_badConfiguration h⟩⟩

end Sys2Proof.Machine
end
